-- ==== Sys2Proof/Word.lean ====
section
/-! DEFINITION. Words, bytes and the numbers of Table 2 of spec/00_scope.md (stations, channels, sources, lines, tags). -/

namespace Sys2Proof

/-- A word of the window and of the exchange memory: 16 bits. -/
abbrev Word := BitVec 16

/-- A byte of the station bus: 8 bits. -/
abbrev Byte := BitVec 8

/-- An exchange memory address, 000h to FFFh. -/
abbrev Addr := BitVec 12

/-- A station, 1 to 15 on the bus; the index `i` stands for station `i + 1` (station 0 is no station). -/
abbrev Station := Fin 15

/-- An alert source, 1 to 19; the index `i` stands for source `i + 1`. -/
abbrev Source := Fin 19

/-- A block channel, 0 to 3. -/
abbrev Channel := Fin 4

/-- Memory slots for a step of a channel: at most how many the arbiter grants the Block Channels while the channel stands in the
step (R112, R113; assumption 7). -/
structure Service where
  channel : Channel
  slots : Nat
deriving DecidableEq, Repr

/-- An alert line, 0 or 1. -/
abbrev Line := Fin 2

/-- A request's tag, 0 to 63. -/
abbrev Tag := BitVec 6

/-- The station number as the bus and the window carry it, 1 to 15. -/
def Station.number (n : Station) : Nat := n.val + 1

/-- The station of a number, none for 0 and above 15. -/
def Station.ofNumber (n : Nat) : Option Station :=
  if h : 1 ≤ n ∧ n ≤ 15 then some ⟨n - 1, by omega⟩ else none

/-- The source number as the window carries it, 1 to 19. -/
def Source.number (n : Source) : Nat := n.val + 1

/-- The source of a number, none for 0 and above 19. -/
def Source.ofNumber (n : Nat) : Option Source :=
  if h : 1 ≤ n ∧ n ≤ 19 then some ⟨n - 1, by omega⟩ else none

/-- The alert source of a station: source n is station n, for 1 to 15 (Table 2 of spec/00_scope.md). -/
def Station.source (n : Station) : Source := ⟨n.val, by omega⟩

/-- The station whose attention a source reports, none for the internal sources 16 to 19. -/
def Source.station (n : Source) : Option Station :=
  if h : n.val < 15 then some ⟨n.val, h⟩ else none

/-- Sources 16 to 19 (Table 1 of spec/09_alert_lines.md). -/
def Source.completion : Source := 15
/-- Source 17. -/
def Source.channelEnd : Source := 16
/-- Source 18. -/
def Source.fault : Source := 17
/-- Source 19. -/
def Source.halted : Source := 18

end Sys2Proof
end

