-- ==== Sys2Proof/Config.lean ====
section
/-! DEFINITION. What the part fixes (queue sizes, identifier) and the free values: what the spec leaves open, as constants
without a body, which nothing can evaluate. -/

namespace Sys2Proof

/-- The Request Queue holds at most 16 records (R38). -/
def Config.requestDepth : Nat := 16

/-- The Completion Queue's slots, shared by completions and reservations (R70). -/
def Config.completionDepth : Nat := 16

/-- The part identifier read at ID (R191, R199). -/
def Config.partId : Word := 0x2140#16

/-- The periods of a bus reset interval with SRST# asserted (R18). -/
def Config.resetAssertPeriods : Nat := 32

/-- The periods of a whole bus reset interval (R18). -/
def Config.resetPeriods : Nat := 64

/-- FREE VALUE (assumption 8): the word at an address while RESET# is asserted, when the contents of the exchange memory
"are not defined" (R116); the first argument is `State.free`. -/
opaque Config.undefinedWord : Nat → Nat → Word

/-- FREE VALUE (assumption 9): whether an assertion of RESET# shorter than four CLKIN periods is taken as a full pin reset
("either may happen", R203). -/
opaque Config.shortResetTaken : Nat → Bool

/-- FREE VALUE (assumption 10): whether the Attention Controller takes an ANSWER decided in the END period before the bus
reset that starts in that period (R160 allows both orders). -/
opaque Config.answerBeforeReset : Nat → Bool

end Sys2Proof
end

