-- ==== Sys2Proof/Syntax.lean ====
section
/-! DEFINITION. The commands: one constructor per row of spec/opcode_table.json. The table gives the rows no operands; an
operand here is what the event brings into the part (the word written, the level sampled, the channel served): assumption 25. -/

namespace Sys2Proof

/-- The operations and events of the part, one constructor per row of spec/opcode_table.json. -/
inductive Instr where
  /-- RUN, CMD 01h (R94). -/
  | run
  /-- STOP, CMD 02h (R95). -/
  | stop
  /-- STEP, CMD 03h (R96). -/
  | step
  /-- FLUSH, CMD 04h (R58). -/
  | flush
  /-- BUS_RESET, CMD 05h (R103). -/
  | busReset
  /-- CLEAR_FAULT, CMD 06h (R187). -/
  | clearFault
  /-- SOFT_RESET, CMD 07h (R198). -/
  | softReset
  /-- POST, CMD 10h (R40, R41). -/
  | post
  /-- POP, CMD 11h (R77). -/
  | pop
  /-- PROF_APPLY, CMD 18h (R25). -/
  | profApply
  /-- PROF_LOAD, CMD 19h (R26). -/
  | profLoad
  /-- SRC_APPLY, CMD 1Ah (R170, R171). -/
  | srcApply
  /-- SRC_LOAD, CMD 1Bh (R172). -/
  | srcLoad
  /-- TAKE, CMD 20h (R178). -/
  | take
  /-- END, CMD 21h (R179). -/
  | endService
  /-- ARM, CMD 28h (R125). -/
  | arm
  /-- CH_STOP, CMD 29h (R140). -/
  | chStop
  /-- CH_ACK, CMD 2Ah (R142). -/
  | chAck
  /-- A write of CMD with a word that is no command code (R194). -/
  | unknownCmd (word : Word)
  /-- A window read of MDATA; `running`: its claim arrives while a Block Channels access runs (R110, R112, R114). -/
  | mdataRead (running : Bool)
  /-- A window write of MDATA; `running` as for a read (R110, R112, R114). -/
  | mdataWrite (data : Word) (running : Bool)
  /-- A write of CONFIG (R201). -/
  | configWrite (data : Word)
  /-- A write of ATTN_CFG (R153). -/
  | attnCfgWrite (data : Word)
  /-- A write of another window location (R191). -/
  | windowWrite (location : BitVec 5) (data : Word)
  /-- RESET# is asserted, for `held` CLKIN periods (R203). -/
  | resetAssert (held : Nat)
  /-- RESET# is deasserted (R116). -/
  | resetDeassert
  /-- The clear sweep writes FFFh (R118). -/
  | clearSweepEnd
  /-- SATN# is sampled low after high (R149). -/
  | satnAssertion
  /-- SATN# is sampled high after low (R150). -/
  | satnDeassertion
  /-- The Engine chooses once (R86). -/
  | dispatchChoice
  /-- The response window ends with SRSP 00b throughout (R6). -/
  | responseWindowExpiry
  /-- The hold count reaches 16 times the hold limit (R11). -/
  | holdLimitReached
  /-- The END period of the cycle in flight ends (R92). -/
  | cycleEnd
  /-- A station's backoff timer ends (R56). -/
  | backoffExpiry (station : Station)
  /-- The 64th period of the bus reset interval ends (R105). -/
  | busResetIntervalEnd
  /-- A period boundary with no cycle and no interval in flight (R2). -/
  | dividerTakesEffect
  /-- The identify interval timer's last period ends (R152). -/
  | identifyIntervalLapse
  /-- The reads of a LOAD are served and it is checked (R126, R127). -/
  | ccbLoad (service : Service)
  /-- The count step of a channel word (R130). -/
  | channelCountStep (service : Service)
  /-- The address step and the range check of a channel word (R131, R132). -/
  | channelAddressStep (service : Service)
  /-- The data step up to the start of the station cycle (R133). -/
  | channelDataStep (service : Service)
  /-- The rollback writes of a channel word (R137). -/
  | channelRollback (service : Service)
  /-- SRSP is sampled in the response window (R6). -/
  | stationResponse (code : BitVec 2)
  /-- A byte transfers in the DATA phase, with the levels then on SAD and SPAR (R8, R9). -/
  | byteTransfer (sad : Byte) (spar : Bool)
  /-- SSENSE is sampled in the last SENSE period (R14). -/
  | senseSample (level : Bool)
  /-- The four samples of the ANSWER phase, the last of which is the low byte's check (R15, R16). -/
  | answerCheckSample (high : Byte) (highSpar : Bool) (low : Byte) (lowSpar : Bool)
  /-- The 32 settle periods of the bus reset interval begin (R18). -/
  | settlePeriodsBegin
  /-- The memory write of an IN channel word (R134). -/
  | inDataWrite (service : Service)
deriving DecidableEq, Repr

end Sys2Proof
end

