-- ==== Sys2Proof/Decode.lean ====
section
/-! DEFINITION. Decoding. No row of spec/opcode_table.json gives bits, so `decodeTableWord` reads no word (assumption 26).
The command codes of Table 1 of spec/11_register_window_and_signals.md are decoded and encoded here: they are what a word
written to CMD stands for (R194). -/

namespace Sys2Proof

/-- No row of the opcode table gives bits, so no word spells a row (assumption 26). -/
def decodeTableWord (_nbits _w : Nat) : Option Instr := none

/-- The command of a word written to CMD; the whole word is the code (R194, Table 1 of spec/11). -/
def decodeCommand (w : Word) : Option Instr :=
  match w.toNat with
  | 0x01 => some .run
  | 0x02 => some .stop
  | 0x03 => some .step
  | 0x04 => some .flush
  | 0x05 => some .busReset
  | 0x06 => some .clearFault
  | 0x07 => some .softReset
  | 0x10 => some .post
  | 0x11 => some .pop
  | 0x18 => some .profApply
  | 0x19 => some .profLoad
  | 0x1A => some .srcApply
  | 0x1B => some .srcLoad
  | 0x20 => some .take
  | 0x21 => some .endService
  | 0x28 => some .arm
  | 0x29 => some .chStop
  | 0x2A => some .chAck
  | _ => none

/-- The word the host writes to CMD for a command, none for what is not a command (Table 1 of spec/11). -/
def encodeCommand : Instr → Option Word
  | .run => some 0x01#16
  | .stop => some 0x02#16
  | .step => some 0x03#16
  | .flush => some 0x04#16
  | .busReset => some 0x05#16
  | .clearFault => some 0x06#16
  | .softReset => some 0x07#16
  | .post => some 0x10#16
  | .pop => some 0x11#16
  | .profApply => some 0x18#16
  | .profLoad => some 0x19#16
  | .srcApply => some 0x1A#16
  | .srcLoad => some 0x1B#16
  | .take => some 0x20#16
  | .endService => some 0x21#16
  | .arm => some 0x28#16
  | .chStop => some 0x29#16
  | .chAck => some 0x2A#16
  | .unknownCmd _ | .mdataRead _ | .mdataWrite _ _ | .configWrite _ | .attnCfgWrite _ | .windowWrite _ _
  | .resetAssert _ | .resetDeassert | .clearSweepEnd | .satnAssertion | .satnDeassertion
  | .dispatchChoice | .responseWindowExpiry | .holdLimitReached | .cycleEnd | .busResetIntervalEnd | .dividerTakesEffect | .identifyIntervalLapse | .settlePeriodsBegin
  | .backoffExpiry _ | .ccbLoad _ | .channelCountStep _ | .channelAddressStep _ | .channelDataStep _
  | .channelRollback _ | .inDataWrite _ | .stationResponse _ | .byteTransfer _ _ | .senseSample _
  | .answerCheckSample _ _ _ _ => none

end Sys2Proof
end

