-- ==== Sys2Proof/Machine/State.lean ====
section
/-! DEFINITION. The state of the part, block by block as Table 1 of spec/00_scope.md names them, and the state after reset. -/

namespace Sys2Proof.Machine

/-- Result codes, read in RESULT (Table 2 of spec/11). -/
inductive Result where
  | ok | queueFull | tagBusy | badField | empty | badState | chBusy | notInService | sourceBusy | already | unknownCmd | init
deriving DecidableEq, Repr

/-- EDGE or LEVEL (R168). -/
inductive Sense where
  | edge | level
deriving DecidableEq, Repr

/-- Where an alert source is routed (R168). -/
inductive Routing where
  | masked | line (l : Line) | channel (c : Channel)
deriving DecidableEq, Repr

/-- The eight fields of a station profile, with the widths of the staging words (R23, Table 3 of spec/02). The same record
holds the staging words PROF_A to PROF_C (R24). -/
structure Profile where
  enabled : Bool
  parityCheck : Bool
  registerCount : BitVec 9
  responseWindow : BitVec 8
  holdLimit : BitVec 8
  pulseSpacing : BitVec 4
  retryInterval : BitVec 8
  deferLimit : BitVec 4
deriving DecidableEq, Repr

/-- SUB_CTRL, SUB_ADDR and SUB_DATA by field (R39, Table 6 of spec/11). -/
structure Submission where
  kind : BitVec 3
  silent : Bool
  tag : Tag
  station : BitVec 5
  operand : Byte
  data : Word
deriving DecidableEq, Repr

/-- SRC_CFG by field (R169, Table 10 of spec/11). -/
structure SourceStaging where
  routing : BitVec 3
  sense : Sense
  priority : BitVec 3
deriving DecidableEq, Repr

/-- The Window Port (R193): result, arguments, staging words and selection indices. `readData` (the word the last read of
MDATA put on D[15:0]) and `rdyHeld` (whether RDY was held back in the last MDATA access) are the model's: assumption 14. -/
structure Port where
  result : Result
  arg0 : Word
  arg1 : Word
  arg2 : Word
  sub : Submission
  profSel : BitVec 5
  prof : Profile
  srcSel : BitVec 5
  src : SourceStaging
  chSel : Channel
  readData : Word
  rdyHeld : Bool
deriving DecidableEq, Repr

/-- CONFIG by field, as written: threshold and SHARE less one (R201). -/
structure ConfigReg where
  threshold : BitVec 4
  haltOnError : Bool
  share : BitVec 3
  divider : BitVec 4
deriving DecidableEq, Repr

/-- What a request asks for; the fields each kind has (Table 1 of spec/03, R37). -/
inductive RequestBody where
  | write (station : Station) (offset : Byte) (data : Word) (silent : Bool)
  | read (station : Station) (offset : Byte)
  | control (station : Station) (mask : BitVec 3)
  | fence
deriving DecidableEq, Repr

/-- The states of a request record (R43). -/
inductive RequestState where
  | waiting | active | backoff
deriving DecidableEq, Repr

/-- A request record (R37). -/
structure Request where
  tag : Tag
  body : RequestBody
  state : RequestState
  defers : Nat
  reserved : Bool
deriving DecidableEq, Repr

/-- The Request Queue (R38), oldest first, and the station backoff timers: none is stopped, `some n` has n periods left (R55). -/
structure RequestQueue where
  records : List Request
  backoff : Vector (Option Nat) 15
deriving DecidableEq, Repr

/-- The kind of a request (R37, R65). -/
inductive RequestKind where
  | write | read | control | fence
deriving DecidableEq, Repr

/-- Completion status codes (R67). -/
inductive Status where
  | ok | noResponse | deferLimit | parity | busHang | busReset | stationOff | range | protocol
deriving DecidableEq, Repr

/-- A completion record; no station for a FENCE (R65). -/
structure Completion where
  tag : Tag
  kind : RequestKind
  station : Option Station
  status : Status
  defers : Nat
  data : Word
deriving DecidableEq, Repr

/-- The Completion Queue, head first, with the reservation count (R70) and the tag-in-use set (R74). -/
structure CompletionQueue where
  records : List Completion
  reserved : Nat
  tags : Vector Bool 64
deriving DecidableEq, Repr

/-- Run states (R83). -/
inductive RunState where
  | running | stopping | halted | stepping
deriving DecidableEq, Repr

/-- The cycle kinds of the station bus (Table 3 of spec/01). -/
inductive CycleKind where
  | write | read | control | identify
deriving DecidableEq, Repr

/-- The profile values a WRITE, READ or CONTROL cycle captures (R4, R28). -/
structure Captured where
  window : BitVec 8
  hold : BitVec 8
  spacing : BitVec 4
  parity : Bool
deriving DecidableEq, Repr

/-- The outcome of a cycle with its data field, where it has one (R17, Table 6 of spec/01). -/
inductive CycleOutcome where
  | ack (data : Option Word) | defer | noResponse | protocol | parity (data : Word) | busHang | answer (data : Word)
  | identifyParity | cut
deriving DecidableEq, Repr

/-- The command pulse lines (R13). -/
inductive PulseLine where
  | sk1 | sk2 | sk4
deriving DecidableEq, Repr

/-- The period a cycle stands in. `response k`: the k-th period of the window. `dataLow high bad`: the high byte taken on a
READ and whether it failed its parity check. `pulse lines k`: the k-th period for the first line left. `sense k`: the k-th.
`answer k`: the k-th of the four ANSWER periods. `ending o`: END, with the outcome decided. -/
inductive Phase where
  | select1 | select2 | response (k : Nat) | turnaround | dataHigh | dataLow (high : Byte) (bad : Bool)
  | pulse (lines : List PulseLine) (k : Nat) | sense (k : Nat) | answer (k : Nat) | ending (o : CycleOutcome)
deriving DecidableEq, Repr

/-- A station bus cycle in flight: captured profile values (none for an IDENTIFY), phase and hold count (R4, R10). -/
structure Cycle where
  captured : Option Captured
  phase : Phase
  hold : Nat
deriving DecidableEq, Repr

/-- Whose work is on the bus (R85). -/
inductive Owner where
  | queue (tag : Tag) | channel (c : Channel) | attention
deriving DecidableEq, Repr

/-- The bus work record (R85): no station for an IDENTIFY; `operand` is the offset or the pulse mask; `cycle` is none for a
channel word whose station cycle has not begun or has ended. -/
structure BusWork where
  owner : Owner
  kind : CycleKind
  station : Option Station
  operand : Byte
  data : Word
  cycle : Option Cycle
deriving DecidableEq, Repr

/-- The bus state with what belongs to it (R84): the bus work record of BUS_CYCLE, the position 1 to 64 of the interval of
BUS_RESETTING and whether SAD is still released in its first period (R18). -/
inductive Bus where
  | idle | cycle (work : BusWork) | resetting (period : Nat) (sadFloating : Bool)
deriving DecidableEq, Repr

/-- The Station Bus Engine (R83), with the divider in effect (R2). -/
structure Engine where
  run : RunState
  bus : Bus
  share : Nat
  pointer : Channel
  divider : BitVec 4
deriving DecidableEq, Repr

/-- The exchange memory's words: (address, word), addresses strictly rising, no entry 0000h; an address not listed holds
0000h, as the clear sweep leaves it (R116): assumption 11. -/
abbrev Memory := List (Nat × Word)

/-- The two claimants of the memory (R112). -/
inductive Claimant where
  | window | channels
deriving DecidableEq, Repr

/-- The Exchange Memory block: words, window pointer (R109), last-served record (R112), channel rotation pointer (R113). -/
structure ExchangeMemory where
  mem : Memory
  mptr : Addr
  lastServed : Claimant
  rotation : Channel
deriving DecidableEq, Repr

/-- Channel reasons (Table 4 of spec/07). -/
inductive Reason where
  | none | noResponse | deferLimit | parity | busHang | busReset | stationOff | range | protocol | address | badCcb
  | complete | stopped
deriving DecidableEq, Repr

/-- The fields of a CCB control word as loaded; `out` is direction OUT (R121, Table 9 of spec/11). -/
structure Control where
  station : Station
  offset : Byte
  out : Bool
  paced : Bool
  hold : Bool
  notify : Bool
deriving DecidableEq, Repr

/-- The next read of a LOAD, with the words already read (R126). -/
inductive LoadStep where
  | control | count (control : Word) | link (control count : Word)
deriving DecidableEq, Repr

/-- How a word that rolls back ends: a fault with its reason, or a DEFER to be handled, `elapsed` periods after the end of
the DEFERred cycle (R135 to R137, R55). -/
inductive WordEnd where
  | fault (reason : Reason) | defer (elapsed : Nat)
deriving DecidableEq, Repr

/-- The next thing a MOVING channel does (Fig. 1 of spec/07): a memory access, asking for its station cycle (with the OUT
word read), waiting for that cycle's end, or a rollback write. `zeroAddrRead`: the count read 0000h (R130). -/
inductive WordStep where
  | countRead | countWrite | zeroAddrRead | addrRead | addrWrite | outRead | ask (data : Option Word) | inCycle
  | inWrite (data : Word) | rollCount (e : WordEnd) | rollAddr (e : WordEnd)
deriving DecidableEq, Repr

/-- Channel states (Table 4 of spec/07), LOADING and MOVING with the step reached. -/
inductive ChState where
  | idle | loading (l : LoadStep) | active | moving (w : WordStep) | ended | faulted
deriving DecidableEq, Repr

/-- A channel record (R123, Table 3 of spec/07). -/
structure ChannelRec where
  state : ChState
  ccb : Addr
  control : Option Control
  link : Option Word
  keptCount : Option Word
  keptAddress : Option Word
  defers : Nat
  stopRequested : Bool
  endFlag : Bool
  reason : Reason
deriving DecidableEq, Repr

/-- What the Attention Controller keeps of one station: latest answer bit, previous-answer bit, pending flag of its source,
fresh flag (R148). -/
structure StationAttention where
  answer : Bool
  previous : Bool
  pending : Bool
  fresh : Bool
deriving DecidableEq, Repr

/-- The identify interval timer (R152). -/
inductive IntervalTimer where
  | stopped | running (left : Nat) | lapsed
deriving DecidableEq, Repr

/-- The Attention Controller (R148); `satn` is true while the latest sample of SATN# is low (asserted). -/
structure Attention where
  satn : Bool
  stations : Vector StationAttention 15
  mark : Bool
  timer : IntervalTimer
  interval : Byte
  emptyAnswers : Nat
  suspended : Bool
deriving DecidableEq, Repr

/-- Routing and priority of a source (R168). -/
structure SourceConfig where
  routing : Routing
  priority : BitVec 3
deriving DecidableEq, Repr

/-- The Alert Logic (R168, R174, R175): configurations, the sense of the station sources, the pending flag of source 19 and
the in-service set of each line. -/
structure Alerts where
  config : Vector SourceConfig 19
  sense : Vector Sense 15
  haltedPending : Bool
  inService : Vector (Vector Bool 19) 2
deriving DecidableEq, Repr

/-- Fault kinds (Table 1 of spec/10). -/
inductive FaultKind where
  | busHang | protocol | identifyParity | atnStuck
deriving DecidableEq, Repr

/-- A full fault record (R184); the record is empty where there is none. -/
structure FaultEntry where
  kind : FaultKind
  station : Option Station
  more : Bool
deriving DecidableEq, Repr

/-- RESET# asserted, INIT with the next address of the clear sweep, or neither (R116, R118). -/
inductive PartPhase where
  | resetAsserted | init (sweep : Nat) | running
deriving DecidableEq, Repr

/-- The state of the part. `free` counts the free values taken (the model's own); `pending` is the queue of waiting
commands, first in, first out (the model's own). -/
structure State where
  part : PartPhase
  port : Port
  cfg : ConfigReg
  profiles : Vector Profile 15
  rq : RequestQueue
  cq : CompletionQueue
  engine : Engine
  xmem : ExchangeMemory
  channels : Vector ChannelRec 4
  attn : Attention
  alerts : Alerts
  fault : Option FaultEntry
  free : Nat
  pending : List Instr
deriving DecidableEq, Repr

/-- No command stops the part: the spec gives every command an effect in every state, so there is no fault (assumption 22). -/
inductive Fault where
deriving DecidableEq, Repr

/-- Why a command is refused. -/
inductive Refusal where
  /-- The command has no meaning in this model yet; answered by the arms of `exec` that say so (none does). Safe. -/
  | notModelled (mnemonic : String)
deriving DecidableEq, Repr

/-- The reset values of a profile (Table 1 of spec/02). -/
def Profile.reset : Profile :=
  { enabled := false, parityCheck := true, registerCount := 256, responseWindow := 32, holdLimit := 64, pulseSpacing := 4,
    retryInterval := 16, deferLimit := 4 }

/-- The Window Port after reset (R24, R39, R124, R169, R193). -/
def Port.reset : Port :=
  { result := .ok, arg0 := 0, arg1 := 0, arg2 := 0,
    sub := { kind := 0, silent := false, tag := 0, station := 0, operand := 0, data := 0 },
    profSel := 0, prof := Profile.reset, srcSel := 0, src := { routing := 0, sense := .edge, priority := 0 }, chSel := 0,
    readData := 0, rdyHeld := false }

/-- CONFIG after reset: 0033h (R201). -/
def ConfigReg.reset : ConfigReg := { threshold := 0, haltOnError := false, share := 3, divider := 3 }

/-- The Request Queue after reset (R61). -/
def RequestQueue.reset : RequestQueue := { records := [], backoff := Vector.replicate 15 none }

/-- The Completion Queue after reset (R81). -/
def CompletionQueue.reset : CompletionQueue := { records := [], reserved := 0, tags := Vector.replicate 64 false }

/-- The Engine after reset, on an idle bus (Table 1 of spec/05). -/
def Engine.reset : Engine := { run := .halted, bus := .idle, share := 0, pointer := 3, divider := 3 }

/-- The Exchange Memory after the clear sweep (R109, R112, R113, R118). -/
def ExchangeMemory.reset : ExchangeMemory := { mem := [], mptr := 0, lastServed := .channels, rotation := 3 }

/-- A channel record after reset (Table 3 of spec/07). -/
def ChannelRec.reset : ChannelRec :=
  { state := .idle, ccb := 0, control := none, link := none, keptCount := none, keptAddress := none, defers := 0,
    stopRequested := false, endFlag := false, reason := .none }

/-- What is kept of a station after reset (R148). -/
def StationAttention.reset : StationAttention := { answer := false, previous := false, pending := false, fresh := false }

/-- The Attention Controller after reset (R148); the SATN# level is the line's, here the board bias (assumption 12). -/
def Attention.reset : Attention :=
  { satn := false, stations := Vector.replicate 15 StationAttention.reset, mark := false, timer := .stopped, interval := 32,
    emptyAnswers := 0, suspended := false }

/-- The Alert Logic after reset (R168, R183). -/
def Alerts.reset : Alerts :=
  { config := Vector.replicate 19 { routing := .masked, priority := 0 }, sense := Vector.replicate 15 .edge,
    haltedPending := false, inService := Vector.replicate 2 (Vector.replicate 19 false) }

/-- The machine right after a pin reset, with INIT and the bus reset interval over: the reset values of the window map,
STATUS 4000h (R118, R199): assumption 1. -/
def State.reset : State :=
  { part := .running, port := Port.reset, cfg := ConfigReg.reset, profiles := Vector.replicate 15 Profile.reset,
    rq := RequestQueue.reset, cq := CompletionQueue.reset, engine := Engine.reset, xmem := ExchangeMemory.reset,
    channels := Vector.replicate 4 ChannelRec.reset, attn := Attention.reset, alerts := Alerts.reset, fault := none,
    free := 0, pending := [] }

end Sys2Proof.Machine
end

