-- ==== Sys2Proof/Machine/Ops.lean ====
section
/-! DEFINITION. The shared operations: memory words, the updates of State, run state and halt triggers, the fault record,
retirement of requests. -/

namespace Sys2Proof.Machine

/-! ### Exchange memory words (R108) -/

/-- The word at an address; an address not listed holds 0000h. -/
def Memory.read : Memory → Nat → Word
  | [], _ => 0
  | (k, v) :: rest, a => if k = a then v else Memory.read rest a

/-- Store one word, keeping the canonical form: rising addresses, no entry 0000h. -/
def Memory.put : Memory → Nat → Word → Memory
  | [], a, w => if w = 0 then [] else [(a, w)]
  | (k, v) :: rest, a, w =>
    if a < k then (if w = 0 then (k, v) :: rest else (a, w) :: (k, v) :: rest)
    else if a = k then (if w = 0 then rest else (a, w) :: rest)
    else (k, v) :: Memory.put rest a w

/-- A write of one word; the memory has the addresses 000h to FFFh, and no access goes beyond them (R108, `ChannelRec.legal`). -/
def Memory.write (m : Memory) (a : Nat) (w : Word) : Memory := if a < 4096 then Memory.put m a w else m

/-- The canonical form: addresses strictly rising and below 4096, no entry 0000h. -/
abbrev Memory.wf (m : Memory) : Prop :=
  m.Pairwise (fun x y => x.1 < y.1) ∧ ∀ x ∈ m, x.2 ≠ 0 ∧ x.1 < 4096

/-- The memory whose word at each address below `n` is `f` of it. -/
def Memory.ofWords (f : Nat → Word) (n : Nat) : Memory :=
  (List.range n).filterMap fun a => if f a = 0 then none else some (a, f a)

/-- The memory with the words at `from`, `from + 1`, ... (`n` of them) cleared, as the clear sweep does (R116). -/
def Memory.clear (m : Memory) (start : Nat) : Nat → Memory
  | 0 => m
  | n + 1 => Memory.clear (Memory.write m start 0) (start + 1) n

/-! ### Updates of State -/

/-- Record the result of a command (R194). -/
def State.setResult (s : State) (r : Result) : State := { s with port := { s.port with result := r } }

/-- Write ARG2 (R196). -/
def State.setArg2 (s : State) (w : Word) : State := { s with port := { s.port with arg2 := w } }

/-- Set the run state. -/
def State.setRun (s : State) (r : RunState) : State := { s with engine := { s.engine with run := r } }

/-- Set the bus state. -/
def State.setBus (s : State) (b : Bus) : State := { s with engine := { s.engine with bus := b } }

/-- Replace one channel record. -/
def State.setChannel (s : State) (c : Channel) (r : ChannelRec) : State := { s with channels := s.channels.set c r }

/-- Replace the memory's words. -/
def State.setMem (s : State) (m : Memory) : State := { s with xmem := { s.xmem with mem := m } }

/-- Replace the request records. -/
def State.setRequests (s : State) (l : List Request) : State := { s with rq := { s.rq with records := l } }

/-- Set one station's backoff timer. -/
def State.setBackoff (s : State) (n : Station) (t : Option Nat) : State :=
  { s with rq := { s.rq with backoff := s.rq.backoff.set n t } }

/-- Replace what the Attention Controller keeps of one station. -/
def State.setStation (s : State) (n : Station) (a : StationAttention) : State :=
  { s with attn := { s.attn with stations := s.attn.stations.set n a } }

/-- Count one free value taken. -/
def State.nextFree (s : State) : State := { s with free := s.free + 1 }

/-! ### INIT and the command mechanism -/

/-- The INIT bit: from the assertion of RESET# until the clear sweep ends (R200). -/
def State.inInit (s : State) : Bool :=
  match s.part with
  | .running => false
  | .resetAsserted => true
  | .init _ => true

/-- A command written to CMD: during INIT and while RESET# is asserted it is not performed and its result is INIT (R194). -/
def windowCommand (body : State → State) (s : State) : State :=
  if s.inInit then s.setResult .init else body s

/-! ### Run state (R93, R98, R99) -/

/-- Bus work is in flight: the bus state is BUS_CYCLE (R84). -/
def State.busy (s : State) : Bool :=
  match s.engine.bus with
  | .cycle _ => true
  | .idle => false
  | .resetting _ _ => false

/-- A bus reset interval runs. -/
def State.resetting (s : State) : Bool :=
  match s.engine.bus with
  | .resetting _ _ => true
  | .idle => false
  | .cycle _ => false

/-- The alert line a routing names. -/
def Routing.toLine : Routing → Option Line
  | .line l => some l
  | .masked => none
  | .channel _ => none

/-- The alert line a source is routed to. -/
def State.lineOf (s : State) (x : Source) : Option Line := (s.alerts.config[x]).routing.toLine

/-- An entry into HALTED from another run state: the HALTED event sets the pending flag of source 19 while that source is
routed to a line (R99, R174). -/
def enterHalted (s : State) : State :=
  { s.setRun .halted with
    alerts := { s.alerts with haltedPending := s.alerts.haltedPending || (s.lineOf Source.halted).isSome } }

/-- What the end of bus work does to the run state: STOPPING and STEPPING become HALTED (R93). -/
def workEnded (s : State) : State :=
  match s.engine.run with
  | .stopping => enterHalted s
  | .stepping => enterHalted s
  | .running => s
  | .halted => s

/-- The end of bus work: the record is dropped, the bus goes idle, the run state follows (R93). -/
def endBusWork (s : State) : State := workEnded (s.setBus .idle)

/-- A halt trigger (R98). -/
def haltTrigger (s : State) : State :=
  if s.cfg.haltOnError then
    match s.engine.run with
    | .running => if s.busy then s.setRun .stopping else enterHalted s
    | .stepping => if s.busy then s.setRun .stopping else enterHalted s
    | .stopping => s
    | .halted => s
  else s

/-! ### Fault record (R185) -/

/-- A writer hands the record a fault: an empty record takes it, a full one only sets more. -/
def writeFault (k : FaultKind) (n : Option Station) (s : State) : State :=
  match s.fault with
  | none => { s with fault := some { kind := k, station := n, more := false } }
  | some f => { s with fault := some { f with more := true } }

/-! ### Requests -/

/-- The station a request names; none for a FENCE (R37). -/
def RequestBody.station : RequestBody → Option Station
  | .write n _ _ _ => some n
  | .read n _ => some n
  | .control n _ => some n
  | .fence => none

/-- The kind of a request (R37). -/
def RequestBody.kind : RequestBody → RequestKind
  | .write _ _ _ _ => .write
  | .read _ _ => .read
  | .control _ _ => .control
  | .fence => .fence

/-- The request is a silent WRITE (R37). -/
def RequestBody.isSilent : RequestBody → Bool
  | .write _ _ _ silent => silent
  | .read _ _ => false
  | .control _ _ => false
  | .fence => false

/-- The completion of a retiring request (Table 5 of spec/03, R50). -/
def completionOf (r : Request) (st : Status) (data : Word) : Completion :=
  { tag := r.tag, kind := r.body.kind, station := r.body.station, status := st, defers := r.defers, data := data }

/-- A silent WRITE retires OK: the reservation is released, no completion is placed, the tag is freed (R73). -/
def silentSuccess (r : Request) (s : State) : State :=
  { s with
    rq := { s.rq with records := s.rq.records.filter (fun x => x.tag ≠ r.tag) }
    cq := { s.cq with reserved := s.cq.reserved - 1, tags := s.cq.tags.set r.tag.toNat false } }

/-- A retirement with a completion: it is appended at the tail and takes the reservation's place; the tag stays in use (R72). -/
def appendCompletion (r : Request) (st : Status) (data : Word) (s : State) : State :=
  { s with
    rq := { s.rq with records := s.rq.records.filter (fun x => x.tag ≠ r.tag) }
    cq := { s.cq with records := s.cq.records ++ [completionOf r st data], reserved := s.cq.reserved - 1 } }

/-- Retirement of a record with a status (R50); a status other than OK is a halt trigger (R98). -/
def retire (r : Request) (st : Status) (data : Word) (s : State) : State :=
  if st = .ok then
    if r.body.isSilent then silentSuccess r s else appendCompletion r st data s
  else haltTrigger (appendCompletion r st data s)

/-- Replace the record of a tag. -/
def State.updateRequest (s : State) (r : Request) : State :=
  s.setRequests (s.rq.records.map fun x => if x.tag = r.tag then r else x)

/-- The DEFER of the ACTIVE record's cycle, under the station's current profile (R52, R29). -/
def deferRequest (r : Request) (n : Station) (s : State) : State :=
  let p := s.profiles[n]
  let d := r.defers + 1
  if p.deferLimit.toNat ≤ d then retire { r with defers := d } .deferLimit 0 s
  else if s.resetting then s.updateRequest { r with defers := d, state := .waiting }
  else (s.updateRequest { r with defers := d, state := .backoff }).setBackoff n (some (8 * p.retryInterval.toNat))

/-- The Request Queue takes the outcome of its cycle (R51 to R54). An ANSWER is never delivered to it (R92). -/
def requestOutcome (t : Tag) (o : CycleOutcome) (s : State) : State :=
  match s.rq.records.find? (fun x => x.tag = t) with
  | none => s
  | some r =>
    match o with
    | .ack data => retire r .ok (data.getD 0) s
    | .defer =>
      match r.body.station with
      | some n => deferRequest r n s
      | none => s
    | .noResponse => retire r .noResponse 0 s
    | .parity data => retire r .parity data s
    | .protocol => retire r .protocol 0 s
    | .busHang => retire r .busHang 0 s
    | .cut => retire r .busReset 0 s
    | .answer _ => s
    | .identifyParity => s

end Sys2Proof.Machine
end

