-- ==== Sys2Proof/Machine/Flags.lean ====
section
/-! DEFINITION. The conditions and flags computed from the state: pending flags, presentation, what is due and what is
eligible. -/

namespace Sys2Proof.Machine

/-! ### Conditions of the internal sources (R173) -/

/-- COMPLETION: the CQ count is at or above the threshold (R79). -/
def completionCondition (s : State) : Bool := decide (s.cfg.threshold.toNat + 1 ≤ s.cq.records.length)

/-- CHANNEL_END: at least one end flag is set (R142). -/
def channelEndCondition (s : State) : Bool := (List.finRange 4).any fun c => (s.channels[c]).endFlag

/-- FAULT: the record is full (R188). -/
def faultCondition (s : State) : Bool := s.fault.isSome

/-- The condition of an internal source, source 19's stored flag among them (R173, R174). -/
def internalInput (s : State) (x : Source) : Bool :=
  if x = Source.completion then completionCondition s
  else if x = Source.channelEnd then channelEndCondition s
  else if x = Source.fault then faultCondition s
  else s.alerts.haltedPending

/-- The pending flag of a source: the Attention Controller's for a station, else the input while routed to a line (R167, R173). -/
def sourcePending (s : State) (x : Source) : Bool :=
  match x.station with
  | some n => (s.attn.stations[n]).pending
  | none => (s.lineOf x).isSome && internalInput s x

/-- The sense of a source: configured for a station, fixed LEVEL for 16 to 18 and EDGE for 19 (R168). -/
def sourceSense (s : State) (x : Source) : Sense :=
  match x.station with
  | some n => s.alerts.sense[n]
  | none => if x = Source.halted then .edge else .level

/-! ### Presentation (R176, R177) -/

/-- The priority of a source. -/
def sourcePriority (s : State) (x : Source) : Nat := (s.alerts.config[x]).priority.toNat

/-- The source is in service on the line (R175). -/
def inServiceOn (s : State) (l : Line) (x : Source) : Bool := (s.alerts.inService[l])[x]

/-- The source is in service on either line. -/
def inService (s : State) (x : Source) : Bool := inServiceOn s 0 x || inServiceOn s 1 x

/-- The four conditions of a presentable source; being above the top of the set is being above every source of it (R176). -/
def presentable (s : State) (l : Line) (x : Source) : Bool :=
  s.lineOf x == some l && sourcePending s x && !inService s x &&
    (List.finRange 19).all fun y => !inServiceOn s l y || decide (sourcePriority s y < sourcePriority s x)

/-- Of a list of sources in rising number, the one of highest priority, the lowest number where priorities are equal. -/
def highest (s : State) (xs : List Source) : Option Source :=
  xs.find? fun x => xs.all fun y => decide (sourcePriority s y ≤ sourcePriority s x)

/-- The presented source of a line (R176). -/
def presented (s : State) (l : Line) : Option Source := highest s ((List.finRange 19).filter (presentable s l))

/-- The top of a line's in-service set (R175). -/
def topInService (s : State) (l : Line) : Option Source := highest s ((List.finRange 19).filter (inServiceOn s l))

/-- ALERT0# or ALERT1# is asserted exactly while its line has a presented source (R177). -/
def alertAsserted (s : State) (l : Line) : Bool := (presented s l).isSome

/-! ### Attention (R151) -/

/-- An IDENTIFY is due. -/
def identifyDue (s : State) : Bool :=
  s.attn.satn && !s.attn.suspended && (!s.attn.mark || s.attn.timer == .lapsed)

/-! ### Eligibility of requests (R44 to R46) -/

/-- Room in the Completion Queue (R71). -/
def credit (s : State) : Nat := Config.completionDepth - (s.cq.records.length + s.cq.reserved)

/-- The station's backoff timer is stopped. -/
def timerStopped (s : State) (n : Station) : Bool := (s.rq.backoff[n]).isNone

/-- A record is eligible behind the older records given (R44, R45). -/
def eligible (s : State) (older : List Request) (r : Request) : Bool :=
  r.state == .waiting && decide (0 < credit s) &&
    match r.body.station with
    | some n => older.all (fun x => x.body.station != some n && x.body != .fence) && timerStopped s n
    | none => older.isEmpty

/-- The oldest eligible record of a list, given the records older than the list (R46). -/
def firstEligible (s : State) (older : List Request) : List Request → Option Request
  | [] => none
  | r :: rest => if eligible s older r then some r else firstEligible s (older ++ [r]) rest

/-- The queue's candidate (R46). -/
def candidate (s : State) : Option Request := firstEligible s [] s.rq.records

/-! ### Eligibility of channels (R128, R89) -/

/-- An ACTIVE channel is eligible for a word. -/
def channelEligible (s : State) (c : Channel) : Bool :=
  let r := s.channels[c]
  r.state == .active &&
    match r.control with
    | some k => timerStopped s k.station && (!k.paced || (s.attn.stations[k.station]).fresh)
    | none => false

/-- The four channels in the order they are looked at after the one named: pointer + 1, + 2, + 3, + 4 modulo 4. -/
def roundRobin (p : Channel) : List Channel := [p + 1, p + 2, p + 3, p]

/-- The channel a word is granted to: the first eligible one after the round-robin pointer (R89). -/
def nextChannel (s : State) : Option Channel := (roundRobin s.engine.pointer).find? (channelEligible s)

/-- The conditions of a choice, but for work being offered (R86). -/
def mayChoose (s : State) : Bool :=
  (s.engine.run == .running || s.engine.run == .stepping) && s.engine.bus == .idle && !s.inInit

/-- SHARE, 1 to 8 (R100). -/
def shareLimit (s : State) : Nat := s.cfg.share.toNat + 1

end Sys2Proof.Machine
end

