-- ==== Sys2Proof/Machine/Operands.lean ====
section
/-! DEFINITION. The operand forms: codes, the bit layouts of the window locations and of the CCB control word (R199 to R202),
what a read of a location returns and what a write of a plain location stores. -/

namespace Sys2Proof.Machine

/-! ### Codes -/

/-- Result codes (Table 2 of spec/11). -/
def Result.code : Result → BitVec 4
  | .ok => 0 | .queueFull => 1 | .tagBusy => 2 | .badField => 3 | .empty => 4 | .badState => 5 | .chBusy => 6
  | .notInService => 7 | .sourceBusy => 8 | .already => 9 | .unknownCmd => 0xA | .init => 0xB

/-- Completion status codes (R67). -/
def Status.code : Status → BitVec 4
  | .ok => 0 | .noResponse => 1 | .deferLimit => 2 | .parity => 3 | .busHang => 4 | .busReset => 5 | .stationOff => 6
  | .range => 7 | .protocol => 8

/-- The status field of CQ_STATUS while the queue is empty (R76). -/
def statusNone : BitVec 4 := 0xF

/-- Kind codes (Table 6 of spec/11). -/
def RequestKind.code : RequestKind → BitVec 3
  | .write => 1 | .read => 2 | .control => 3 | .fence => 4

/-- Channel reason codes (Table 4 of spec/07). -/
def Reason.code : Reason → BitVec 4
  | .none => 0 | .noResponse => 1 | .deferLimit => 2 | .parity => 3 | .busHang => 4 | .busReset => 5 | .stationOff => 6
  | .range => 7 | .protocol => 8 | .address => 9 | .badCcb => 0xA | .complete => 0xB | .stopped => 0xC

/-- Channel state codes (Table 4 of spec/07). -/
def ChState.code : ChState → BitVec 3
  | .idle => 0 | .loading _ => 1 | .active => 2 | .moving _ => 3 | .ended => 4 | .faulted => 5

/-- Fault kind codes (Table 1 of spec/10). -/
def FaultKind.code : FaultKind → BitVec 3
  | .busHang => 1 | .protocol => 2 | .identifyParity => 3 | .atnStuck => 4

/-- Run state codes (Table 5 of spec/11). -/
def RunState.code : RunState → BitVec 2
  | .running => 0 | .stopping => 1 | .halted => 2 | .stepping => 3

/-- Bus state codes (Table 5 of spec/11). -/
def Bus.code : Bus → BitVec 2
  | .idle => 0 | .cycle _ => 1 | .resetting _ _ => 2

/-- Routing codes (R168). -/
def Routing.code : Routing → BitVec 3
  | .masked => 0
  | .line l => BitVec.ofNat 3 (1 + l.val)
  | .channel c => BitVec.ofNat 3 (4 + c.val)

/-- The routing of a code; code 3 stands for none (R168). -/
def Routing.ofCode (b : BitVec 3) : Option Routing :=
  match b.toNat with
  | 0 => some .masked
  | 1 => some (.line 0)
  | 2 => some (.line 1)
  | 4 => some (.channel 0)
  | 5 => some (.channel 1)
  | 6 => some (.channel 2)
  | 7 => some (.channel 3)
  | _ => none

/-- Sense bit: 0 EDGE, 1 LEVEL (R168). -/
def Sense.bit : Sense → Bool
  | .edge => false | .level => true

/-- The sense of a bit. -/
def Sense.ofBit (b : Bool) : Sense := if b then .level else .edge

/-- The station number in four bits, 0 for none. -/
def stationBits : Option Station → BitVec 4
  | none => 0
  | some n => BitVec.ofNat 4 n.number

/-! ### Layouts of the staging and configuration words (R202, Tables 6 and 10 of spec/11) -/

/-- SUB_CTRL: silent 15, kind 10-8, tag 5-0. -/
def Submission.ctrlWord (x : Submission) : Word := BitVec.ofBool x.silent ++ 0#4 ++ x.kind ++ 0#2 ++ x.tag

/-- A write of SUB_CTRL (R39). -/
def Submission.writeCtrl (x : Submission) (w : Word) : Submission :=
  { x with silent := w.getLsbD 15, kind := w.extractLsb' 8 3, tag := w.extractLsb' 0 6 }

/-- SUB_ADDR: station 12-8, offset or mask 7-0. -/
def Submission.addrWord (x : Submission) : Word := 0#3 ++ x.station ++ x.operand

/-- A write of SUB_ADDR (R39). -/
def Submission.writeAddr (x : Submission) (w : Word) : Submission :=
  { x with station := w.extractLsb' 8 5, operand := w.extractLsb' 0 8 }

/-- PROF_A: enabled 15, parity check 14, register count 8-0. -/
def Profile.wordA (p : Profile) : Word := BitVec.ofBool p.enabled ++ BitVec.ofBool p.parityCheck ++ 0#5 ++ p.registerCount

/-- A write of PROF_A (R24). -/
def Profile.writeA (p : Profile) (w : Word) : Profile :=
  { p with enabled := w.getLsbD 15, parityCheck := w.getLsbD 14, registerCount := w.extractLsb' 0 9 }

/-- PROF_B: response window 15-8, hold limit 7-0. -/
def Profile.wordB (p : Profile) : Word := p.responseWindow ++ p.holdLimit

/-- A write of PROF_B (R24). -/
def Profile.writeB (p : Profile) (w : Word) : Profile :=
  { p with responseWindow := w.extractLsb' 8 8, holdLimit := w.extractLsb' 0 8 }

/-- PROF_C: pulse spacing 15-12, retry interval 11-4, defer limit 3-0. -/
def Profile.wordC (p : Profile) : Word := p.pulseSpacing ++ p.retryInterval ++ p.deferLimit

/-- A write of PROF_C (R24). -/
def Profile.writeC (p : Profile) (w : Word) : Profile :=
  { p with pulseSpacing := w.extractLsb' 12 4, retryInterval := w.extractLsb' 4 8, deferLimit := w.extractLsb' 0 4 }

/-- SRC_CFG: routing code 10-8, sense 7, priority 2-0. -/
def SourceStaging.word (x : SourceStaging) : Word := 0#5 ++ x.routing ++ BitVec.ofBool x.sense.bit ++ 0#4 ++ x.priority

/-- A write of SRC_CFG (R169). -/
def SourceStaging.ofWord (w : Word) : SourceStaging :=
  { routing := w.extractLsb' 8 3, sense := Sense.ofBit (w.getLsbD 7), priority := w.extractLsb' 0 3 }

/-- CONFIG: threshold less one 15-12, halt-on-error 8, SHARE less one 6-4, divider 3-0 (R201). -/
def ConfigReg.word (x : ConfigReg) : Word :=
  x.threshold ++ 0#3 ++ BitVec.ofBool x.haltOnError ++ 0#1 ++ x.share ++ x.divider

/-- A write of CONFIG (R201). -/
def ConfigReg.ofWord (w : Word) : ConfigReg :=
  { threshold := w.extractLsb' 12 4, haltOnError := w.getLsbD 8, share := w.extractLsb' 4 3, divider := w.extractLsb' 0 4 }

/-- The value of ATTN_CFG: bits 7-0, a value of 0 stored as 1 (R153). -/
def intervalOfWord (w : Word) : Byte := if w.extractLsb' 0 8 = 0#8 then 1 else w.extractLsb' 0 8

/-- The CCB control word by field: station 15-12, direction 11, PACED 10, HOLD 9, NOTIFY 8, offset 7-0; none where the
station is 0 (Table 9 of spec/11, R121, R127). -/
def Control.ofWord (w : Word) : Option Control :=
  (Station.ofNumber (w.extractLsb' 12 4).toNat).map fun n =>
    { station := n, offset := w.extractLsb' 0 8, out := w.getLsbD 11, paced := w.getLsbD 10, hold := w.getLsbD 9,
      notify := w.getLsbD 8 }

/-- The control word of a control field set. -/
def Control.word (k : Control) : Word :=
  BitVec.ofNat 4 k.station.number ++ BitVec.ofBool k.out ++ BitVec.ofBool k.paced ++ BitVec.ofBool k.hold ++
    BitVec.ofBool k.notify ++ k.offset

/-- What a request's staging words ask for; none where POST answers BAD_FIELD (R40 step 1, Table 3 of spec/03). -/
def Submission.body (x : Submission) : Option RequestBody :=
  match x.kind.toNat with
  | 1 => (Station.ofNumber x.station.toNat).map fun n => .write n x.operand x.data x.silent
  | 2 => (Station.ofNumber x.station.toNat).map fun n => .read n x.operand
  | 3 =>
    if x.operand.extractLsb' 0 3 = 0#3 then none
    else (Station.ofNumber x.station.toNat).map fun n => .control n (x.operand.extractLsb' 0 3)
  | 4 => some .fence
  | _ => none

/-- The ranges PROF_APPLY checks (R25). -/
def Profile.legal (p : Profile) : Bool :=
  decide (1 ≤ p.registerCount.toNat) && decide (p.registerCount.toNat ≤ 256) && p.responseWindow != 0 && p.holdLimit != 0 &&
    p.retryInterval != 0 && p.pulseSpacing != 0 && p.deferLimit != 0

/-! ### Reading a location (R191, R199, R200) -/

/-- STATUS: INIT 15, run state 14-13, bus state 12-11, fault valid 10, RQ count 9-5, CQ count 4-0. -/
def statusWord (s : State) : Word :=
  BitVec.ofBool s.inInit ++ s.engine.run.code ++ s.engine.bus.code ++ BitVec.ofBool s.fault.isSome ++
    BitVec.ofNat 5 s.rq.records.length ++ BitVec.ofNat 5 s.cq.records.length

/-- CQ_HEAD: station 15-12, kind 10-8, tag 5-0; 0000h while empty (R76). -/
def cqHeadWord (s : State) : Word :=
  match s.cq.records with
  | [] => 0
  | c :: _ => stationBits c.station ++ 0#1 ++ c.kind.code ++ 0#2 ++ c.tag

/-- CQ_STATUS: defers 11-8, status 3-0; NONE while empty (R76). -/
def cqStatusWord (s : State) : Word :=
  match s.cq.records with
  | [] => 0#12 ++ statusNone
  | c :: _ => 0#4 ++ BitVec.ofNat 4 c.defers ++ 0#4 ++ c.status.code

/-- CQ_DATA (R76). -/
def cqDataWord (s : State) : Word :=
  match s.cq.records with
  | [] => 0
  | c :: _ => c.data

/-- SRC_STATE of the source in SRC_SEL: pending 15, in service 14, routing 10-8, fresh 1, answer 0; 0000h where SRC_SEL
names no source (R181). -/
def srcStateWord (s : State) : Word :=
  match Source.ofNumber s.port.srcSel.toNat with
  | none => 0
  | some x =>
    let fresh := match x.station with | some n => (s.attn.stations[n]).fresh | none => false
    let answer := match x.station with | some n => (s.attn.stations[n]).answer | none => false
    BitVec.ofBool (sourcePending s x) ++ BitVec.ofBool (inService s x) ++ 0#3 ++ (s.alerts.config[x]).routing.code ++ 0#6 ++
      BitVec.ofBool fresh ++ BitVec.ofBool answer

/-- The in-service mask of a line: bit p is set while a source of priority p is in service (R180). -/
def serviceMask (s : State) (l : Line) : BitVec 8 :=
  BitVec.ofNat 8 (((List.range 8).filter fun p =>
    (List.finRange 19).any fun x => inServiceOn s l x && sourcePriority s x == p).foldl (fun acc p => acc + 2 ^ p) 0)

/-- ALERT0 and ALERT1: presented source 12-8, in-service mask 7-0 (R180). -/
def alertWord (s : State) (l : Line) : Word :=
  let n := match presented s l with | some x => x.number | none => 0
  0#3 ++ BitVec.ofNat 5 n ++ serviceMask s l

/-- ATTN: latest answer bit n in bit n, SATN# asserted in bit 0 (R166). -/
def attnWord (s : State) : Word :=
  BitVec.ofNat 16 ((List.finRange 15).foldl
    (fun acc (n : Station) => if (s.attn.stations[n]).answer then acc + 2 ^ n.number else acc)
    (if s.attn.satn then 1 else 0))

/-- CH_STATUS of the channel in CH_SEL: end flag 15, state 14-12, reason 11-8, defer count 3-0 (R124). -/
def chStatusWord (s : State) : Word :=
  let r := s.channels[s.port.chSel]
  BitVec.ofBool r.endFlag ++ r.state.code ++ r.reason.code ++ 0#4 ++ BitVec.ofNat 4 r.defers

/-- FAULT: valid 15, more 14, kind 10-8, station 3-0; 0000h while empty (R189). -/
def faultWord (s : State) : Word :=
  match s.fault with
  | none => 0
  | some f => 1#1 ++ BitVec.ofBool f.more ++ 0#3 ++ f.kind.code ++ 0#4 ++ stationBits f.station

/-- The word a read of a location returns outside INIT (Table 4 of spec/11). For MDATA it is the word at MPTR; the advance
is the command's (R110). -/
def locationWord (s : State) (location : BitVec 5) : Word :=
  match location.toNat with
  | 0x00 => Config.partId
  | 0x01 => statusWord s
  | 0x02 => 0#12 ++ s.port.result.code
  | 0x03 => s.port.arg0
  | 0x04 => s.port.arg1
  | 0x05 => s.port.arg2
  | 0x06 => s.port.sub.ctrlWord
  | 0x07 => s.port.sub.addrWord
  | 0x08 => s.port.sub.data
  | 0x09 => cqHeadWord s
  | 0x0A => cqStatusWord s
  | 0x0B => cqDataWord s
  | 0x0C => 0#4 ++ s.xmem.mptr
  | 0x0D => Memory.read s.xmem.mem s.xmem.mptr.toNat
  | 0x0E => 0#11 ++ s.port.profSel
  | 0x0F => s.port.prof.wordA
  | 0x10 => s.port.prof.wordB
  | 0x11 => s.port.prof.wordC
  | 0x12 => 0#11 ++ s.port.srcSel
  | 0x13 => s.port.src.word
  | 0x14 => srcStateWord s
  | 0x15 => alertWord s 0
  | 0x16 => alertWord s 1
  | 0x17 => attnWord s
  | 0x18 => BitVec.ofNat 16 s.port.chSel.val
  | 0x19 => chStatusWord s
  | 0x1A => 0#4 ++ (s.channels[s.port.chSel]).ccb
  | 0x1B => faultWord s
  | 0x1C => s.cfg.word
  | 0x1D => 0#8 ++ s.attn.interval
  | _ => 0

/-- The word a read of a location returns: during INIT only STATUS reads other than 0000h (R117). -/
def windowRead (s : State) (location : BitVec 5) : Word :=
  if s.inInit then (if location = 0x01#5 then statusWord s else 0) else locationWord s location

/-! ### Writing a plain location (R191) -/

/-- A write of a plain location stores its fields; a read-only location, 1Eh and 1Fh ignore it. -/
def storeLocation (location : BitVec 5) (w : Word) (s : State) : State :=
  match location.toNat with
  | 0x03 => { s with port := { s.port with arg0 := w } }
  | 0x04 => { s with port := { s.port with arg1 := w } }
  | 0x05 => { s with port := { s.port with arg2 := w } }
  | 0x06 => { s with port := { s.port with sub := s.port.sub.writeCtrl w } }
  | 0x07 => { s with port := { s.port with sub := s.port.sub.writeAddr w } }
  | 0x08 => { s with port := { s.port with sub := { s.port.sub with data := w } } }
  | 0x0C => { s with xmem := { s.xmem with mptr := w.extractLsb' 0 12 } }
  | 0x0E => { s with port := { s.port with profSel := w.extractLsb' 0 5 } }
  | 0x0F => { s with port := { s.port with prof := s.port.prof.writeA w } }
  | 0x10 => { s with port := { s.port with prof := s.port.prof.writeB w } }
  | 0x11 => { s with port := { s.port with prof := s.port.prof.writeC w } }
  | 0x12 => { s with port := { s.port with srcSel := w.extractLsb' 0 5 } }
  | 0x13 => { s with port := { s.port with src := SourceStaging.ofWord w } }
  | 0x18 => { s with port := { s.port with chSel := (w.extractLsb' 0 2).toFin } }
  | _ => s

/-- A write of CONFIG stores its four fields (R201). The divider takes effect later (R2). -/
def storeConfig (w : Word) (s : State) : State := { s with cfg := ConfigReg.ofWord w }

/-- A write of ATTN_CFG stores the identify interval (R153). -/
def storeInterval (w : Word) (s : State) : State := { s with attn := { s.attn with interval := intervalOfWord w } }

end Sys2Proof.Machine
end

