-- ==== Sys2Proof/Machine/Lines.lean ====
section
/-! DEFINITION. The station bus lines the part drives, computed from the bus state period by period (R1, R3, R5, R8, R9, R13,
R15, R18, R20). -/

namespace Sys2Proof.Machine

/-- The number of ones of a byte. -/
def onesOf (b : Byte) : Nat := ((List.range 8).filter fun i => b.getLsbD i).length

/-- The SPAR level that makes the nine lines carry an odd number of ones (R3). -/
def oddParity (b : Byte) : Bool := onesOf b % 2 == 0

/-- The nine lines carry an odd number of ones (R3, R12, R16). -/
def parityGood (b : Byte) (spar : Bool) : Bool := spar == oddParity b

/-- The output lines. `ssel`, `sk1`, `sk2`, `sk4`, `srst` are true while the line is asserted (low); `sad` and `spar` are none
while the part has released them. -/
structure Pins where
  ssel : Bool
  sdir : Bool
  sad : Option Byte
  spar : Option Bool
  sk1 : Bool
  sk2 : Bool
  sk4 : Bool
  srst : Bool
deriving DecidableEq, Repr

/-- The idle levels (R1). -/
def idlePins : Pins :=
  { ssel := false, sdir := false, sad := some 0, spar := some true, sk1 := false, sk2 := false, sk4 := false, srst := false }

/-- SSEL# asserted and a byte driven with its parity (R3, R4). -/
def drivePins (b : Byte) : Pins := { idlePins with ssel := true, sad := some b, spar := some (oddParity b) }

/-- SSEL# asserted with the lines given to the stations: SDIR 1, SAD and SPAR released (R1). -/
def releasedPins : Pins := { idlePins with ssel := true, sdir := true, sad := none, spar := none }

/-- The cycle kind code (Table 4 of spec/01). -/
def CycleKind.code : CycleKind → BitVec 4
  | .write => 1 | .read => 2 | .control => 3 | .identify => 8

/-- The first select byte: station number and kind code (R5). -/
def selectByte1 (w : BusWork) : Byte := stationBits w.station ++ w.kind.code

/-- The second select byte: the offset, or the pulse mask with bits 7-3 at 0 (R5). -/
def selectByte2 (w : BusWork) : Byte := w.operand

/-- A cycle kind in which stations drive SAD (READ and IDENTIFY). -/
def CycleKind.stationsDrive : CycleKind → Bool
  | .read => true | .identify => true | .write => false | .control => false

/-- The outcome was decided with SDIR at 1, so the part takes SAD back at the end of END (R1, R4, R7). -/
def releasedAtEnd (k : CycleKind) (o : CycleOutcome) : Bool :=
  match k, o with
  | .read, .ack _ => true
  | .read, .parity _ => true
  | .read, .busHang => true
  | .identify, _ => true
  | _, _ => false

/-- The lines in a phase of a cycle. -/
def phasePins (w : BusWork) (c : Cycle) : Pins :=
  match c.phase with
  | .select1 => drivePins (selectByte1 w)
  | .select2 => drivePins (selectByte2 w)
  | .response _ => drivePins (selectByte2 w)
  | .turnaround => releasedPins
  | .dataHigh => if w.kind.stationsDrive then releasedPins else drivePins (w.data.extractLsb' 8 8)
  | .dataLow _ _ => if w.kind.stationsDrive then releasedPins else drivePins (w.data.extractLsb' 0 8)
  | .pulse lines k =>
    let fired := (c.captured.map fun p => decide (k = p.spacing.toNat + 1)).getD false
    { drivePins (selectByte2 w) with
      sk1 := fired && lines.head? == some .sk1
      sk2 := fired && lines.head? == some .sk2
      sk4 := fired && lines.head? == some .sk4 }
  | .sense _ => drivePins (selectByte2 w)
  | .answer _ => releasedPins
  | .ending o => if releasedAtEnd w.kind o then { idlePins with sad := none, spar := none } else idlePins

/-- The lines in every state: idle levels on an idle bus and during the memory steps of a channel word, SRST# through the
first 32 periods of an interval and while RESET# is asserted (R1, R18, R20, R85). -/
def pins (s : State) : Pins :=
  match s.engine.bus with
  | .idle => idlePins
  | .cycle w =>
    match w.cycle with
    | none => idlePins
    | some c => phasePins w c
  | .resetting k floating =>
    let base := { idlePins with srst := decide (k ≤ Config.resetAssertPeriods) || s.part == .resetAsserted }
    if floating && k == 1 then { base with sad := none, spar := none } else base

/-- The command pulse lines in the order they fire (R13). -/
def pulseLines (mask : BitVec 3) : List PulseLine :=
  (if mask.getLsbD 0 then [.sk1] else []) ++ (if mask.getLsbD 1 then [.sk2] else []) ++ (if mask.getLsbD 2 then [.sk4] else [])

end Sys2Proof.Machine
end

