-- ==== Sys2Proof/Machine/Attention.lean ====
section
/-! DEFINITION. The Attention Controller: taking an answer, parity, what the SATN# line clears, resets (R148 to R166), and the
meanings of SATN_ASSERTION, SATN_DEASSERTION and IDENTIFY_INTERVAL_LAPSE. -/

namespace Sys2Proof.Machine

/-- The start of the identify interval timer: 8 times the identify interval periods (R152). -/
def startIntervalTimer (s : State) : State :=
  { s with attn := { s.attn with timer := .running (8 * s.attn.interval.toNat) } }

/-- One station's flags after an answer bit `b` taken while SATN# is asserted (R155, Table 2 of spec/08). -/
def interpretAsserted (enabled : Bool) (route : Routing) (sense : Sense) (b : Bool) (a : StationAttention) : StationAttention :=
  let a' := { a with answer := b }
  if enabled then
    match route with
    | .masked => { a' with previous := b }
    | .line _ =>
      match sense with
      | .edge => { a' with pending := a.pending || (b && !a.previous), previous := b }
      | .level => { a' with pending := b, previous := b }
    | .channel _ => { a' with fresh := b, previous := b }
  else a'

/-- One station's flags after an answer bit `b` taken while SATN# is deasserted: only an edge pending can be set (R156). The edge
test is against the bit the deassertion cleared, so a bit that was 1 in the answer before is a rise here and none where the
answer comes first (assumption 33: the model's choice). -/
def interpretDeasserted (enabled : Bool) (route : Routing) (sense : Sense) (b : Bool) (a : StationAttention) : StationAttention :=
  let a' := { a with answer := b }
  match enabled, route, sense with
  | true, .line _, .edge => { a' with pending := a.pending || (b && !a.previous) }
  | _, _, _ => a'

/-- Some enabled station's bit of the answer is 1 (R161). -/
def enabledBitSet (s : State) (w : Word) : Bool :=
  (List.finRange 15).any fun (n : Station) => (s.profiles[n]).enabled && w.getLsbD n.number

/-- Every station interpreted from its bit of the answer, under its current enable, routing and sense (R154 steps 1 and 3). -/
def interpretAnswer (s : State) (w : Word) : Vector StationAttention 15 :=
  Vector.ofFn fun (n : Station) =>
    let interpret := if s.attn.satn then interpretAsserted else interpretDeasserted
    interpret (s.profiles[n]).enabled (s.alerts.config[n.source]).routing s.alerts.sense[n] (w.getLsbD n.number) s.attn.stations[n]

/-- The empty-answer counter after an answer (R161): the fourth empty answer in a row writes ATN_STUCK and suspends. It counts
against the profiles as they stand, so where a disable takes away the only enabled bit the order of answer and disable shows
(assumption 32: the model's choice beside R33). -/
def countEmptyAnswer (w : Word) (s : State) : State :=
  if s.attn.satn then
    if enabledBitSet s w then { s with attn := { s.attn with emptyAnswers := 0 } }
    else if 4 ≤ s.attn.emptyAnswers + 1 then
      writeFault .atnStuck none { s with attn := { s.attn with emptyAnswers := 0, suspended := true } }
    else { s with attn := { s.attn with emptyAnswers := s.attn.emptyAnswers + 1 } }
  else s

/-- An IDENTIFY's ANSWER is taken (R154 to R156). Its order with a deassertion of SATN# shows in the timer, in an edge pending and
in a fourth empty answer's fault (assumption 33: the model's choice beside R156's "the same in either order"). -/
def takeAnswer (w : Word) (s : State) : State :=
  countEmptyAnswer w (startIntervalTimer { s with attn := { s.attn with stations := interpretAnswer s w } })

/-- An IDENTIFY ends IDENTIFY_PARITY: the answer is discarded, the fault written, the timer started (R159). -/
def takeIdentifyParity (s : State) : State := writeFault .identifyParity none (startIntervalTimer s)

/-- The Attention Controller takes the outcome of its cycle (R154, R159). A CUT changes nothing (R160); it takes no other
outcome (R92). -/
def attentionOutcome (o : CycleOutcome) (s : State) : State :=
  match o with
  | .answer w => takeAnswer w s
  | .identifyParity => takeIdentifyParity s
  | .cut => s
  | .ack _ => s
  | .defer => s
  | .noResponse => s
  | .protocol => s
  | .parity _ => s
  | .busHang => s

/-- What a bus reset start clears (R164); the interval and the SATN# level stay. -/
def clearAttention (s : State) : State :=
  { s with
    attn := { s.attn with
      stations := Vector.replicate 15 StationAttention.reset, mark := false, timer := .stopped, emptyAnswers := 0,
      suspended := false } }

/-- An IDENTIFY whose outcome meets the start of a bus reset, before the reset clears the controller's state (R160): CUT
takes nothing; a decided IDENTIFY_PARITY writes its fault in either order; a decided ANSWER is taken first or discarded,
which is a free choice (assumption 10). -/
def identifyMeetsReset (o : CycleOutcome) (s : State) : State :=
  match o with
  | .answer w => if Config.answerBeforeReset s.free then (takeAnswer w s).nextFree else s.nextFree
  | .identifyParity => takeIdentifyParity s
  | .cut => s
  | .ack _ => s
  | .defer => s
  | .noResponse => s
  | .protocol => s
  | .parity _ => s
  | .busHang => s

/-- One station at a deassertion of SATN#: level pending, fresh and previous-answer bit cleared (R150). -/
def deassertStation (sense : Sense) (a : StationAttention) : StationAttention :=
  { a with pending := (match sense with | .edge => a.pending | .level => false), fresh := false, previous := false }

/-- SATN_ASSERTION: the level follows the line and the identify mark is cleared (R149). A line already asserted makes no
assertion. -/
def execSatnAssertion (s : State) : Host.Outcome State Fault Refusal :=
  .next (if s.attn.satn then s else { s with attn := { s.attn with satn := true, mark := false } })

/-- SATN_DEASSERTION (R150). A line already deasserted makes no deassertion. It acts on the state as it stands, so its order with
the taking of an answer shows (assumption 33: the model's choice). -/
def execSatnDeassertion (s : State) : Host.Outcome State Fault Refusal :=
  .next (if s.attn.satn then
    { s with
      attn := { s.attn with
        satn := false, mark := false, timer := .stopped, emptyAnswers := 0, suspended := false
        stations := Vector.ofFn fun (n : Station) => deassertStation s.alerts.sense[n] s.attn.stations[n] } }
  else s)

/-- IDENTIFY_INTERVAL_LAPSE: a running interval timer lapses (R152). A timer that does not run has no last period. -/
def execIdentifyIntervalLapse (s : State) : Host.Outcome State Fault Refusal :=
  .next (match s.attn.timer with
    | .running _ => { s with attn := { s.attn with timer := .lapsed } }
    | .stopped => s
    | .lapsed => s)

end Sys2Proof.Machine
end

