-- ==== Sys2Proof/Machine/Channels.lean ====
section
/-! DEFINITION. Block channels: entries into ENDED and FAULTED, the ends of a word, rollback, finishing a CCB, LOAD's checks
(R121 to R147), and the start of a bus reset (R104), which every owner meets. -/

namespace Sys2Proof.Machine

/-- The channel's word holds the bus (R84, R85). A MOVING channel whose word a bus reset has ended holds it no longer (R145). -/
def ownsBus (c : Channel) (s : State) : Bool :=
  match s.engine.bus with
  | .cycle w => w.owner == .channel c
  | .idle => false
  | .resetting _ _ => false

/-- The bus work of the channel ends as it leaves MOVING (R93); nothing where a bus reset has ended it before. -/
def releaseBus (c : Channel) (s : State) : State := if ownsBus c s then endBusWork s else s

/-- An entry into ENDED (R143). -/
def enterEnded (c : Channel) (reason : Reason) (s : State) : State :=
  s.setChannel c { s.channels[c] with
    state := .ended, reason := reason, endFlag := true, stopRequested := false, keptCount := none, keptAddress := none }

/-- An entry into FAULTED: as into ENDED, with a halt trigger (R143, R98). -/
def enterFaulted (c : Channel) (reason : Reason) (s : State) : State :=
  haltTrigger (s.setChannel c { s.channels[c] with
    state := .faulted, reason := reason, endFlag := true, stopRequested := false, keptCount := none, keptAddress := none })

/-- The state a channel takes after work that leaves it neither finished nor failed: ENDED(STOPPED) on a stop request (R141),
FAULTED(BUS_RESET) where a bus reset has ended its bus work (R145), else ACTIVE. -/
def resumeOrStop (c : Channel) (lost : Bool) (s : State) : State :=
  let r := s.channels[c]
  if r.stopRequested then enterEnded c .stopped s
  else if lost then enterFaulted c .busReset s
  else s.setChannel c { r with state := .active, keptCount := none, keptAddress := none }

/-- The DEFER of a channel word, after its rollback (R135): the defer count rises; at the limit the channel faults; below it
the station's backoff timer starts, counted from the end of the DEFERred cycle (R55), unless a bus reset has begun (R145). -/
def handleChannelDefer (c : Channel) (elapsed : Nat) (lost : Bool) (s : State) : State :=
  let r := s.channels[c]
  match r.control with
  | none => s
  | some k =>
    let p := s.profiles[k.station]
    let s1 := s.setChannel c { r with defers := r.defers + 1 }
    if p.deferLimit.toNat ≤ r.defers + 1 then enterFaulted c .deferLimit s1
    else if lost then resumeOrStop c true s1
    else resumeOrStop c false (s1.setBackoff k.station (some (max 1 (8 * p.retryInterval.toNat - elapsed))))

/-- The channel leaves MOVING after its rollback (R137): its bus work ends, then it faults or handles its DEFER. -/
def leaveMoving (c : Channel) (e : WordEnd) (s : State) : State :=
  let lost := !ownsBus c s
  let s1 := releaseBus c s
  match e with
  | .fault reason => enterFaulted c reason s1
  | .defer elapsed => handleChannelDefer c elapsed lost s1

/-- Rollback begins (R137): with nothing kept there is nothing to write and the channel leaves MOVING at once. -/
def startRollback (c : Channel) (e : WordEnd) (s : State) : State :=
  let r := s.channels[c]
  match r.keptCount with
  | none => leaveMoving c e s
  | some _ => s.setChannel c { r with state := .moving (.rollCount e) }

/-- A CCB is finished: the ACK of a word brought its count to 0000h (R138). Where a bus reset has ended the bus work, a link
is followed but not loaded: FAULTED(BUS_RESET) (R145). -/
def finishCcb (c : Channel) (lost : Bool) (s : State) : State :=
  let r := s.channels[c]
  let notify := (r.control.map fun k => k.notify).getD false
  let link := r.link.getD 0
  let s1 := s.setChannel c { r with endFlag := r.endFlag || notify }
  if link ≠ 0 ∧ r.stopRequested = false then
    if 0xFFC < link.toNat then enterFaulted c .address s1
    else
      let s2 := s1.setChannel c { s1.channels[c] with
        ccb := link.extractLsb' 0 12, state := .loading .control, keptCount := none, keptAddress := none }
      if lost then enterFaulted c .busReset s2 else s2
  else enterEnded c .complete s1

/-- A paced word's ACK clears the fresh flag of its station (R134 step 2). -/
def consumeFresh (k : Control) (s : State) : State :=
  if k.paced then s.setStation k.station { s.attn.stations[k.station] with fresh := false } else s

/-- The ACK of a word, after the IN data is in memory (R134 steps 2 to 7). -/
def channelAck (c : Channel) (s : State) : State :=
  let r := s.channels[c]
  match r.control with
  | none => s
  | some k =>
    let lost := !ownsBus c s
    let s1 := releaseBus c (consumeFresh k (s.setChannel c { r with defers := 0 }))
    if r.keptCount.getD 0 + 1 = 0 then finishCcb c lost s1 else resumeOrStop c lost s1

/-- The channel takes the outcome of its station cycle (R133 to R136). An ANSWER is never delivered to it (R92). -/
def channelOutcome (c : Channel) (o : CycleOutcome) (s : State) : State :=
  match o with
  | .ack data =>
    match (s.channels[c]).control with
    | none => s
    | some k =>
      if k.out then channelAck c s
      else s.setChannel c { s.channels[c] with state := .moving (.inWrite (data.getD 0)) }
  | .defer => startRollback c (.defer 0) s
  | .noResponse => startRollback c (.fault .noResponse) s
  | .protocol => startRollback c (.fault .protocol) s
  | .parity _ => startRollback c (.fault .parity) s
  | .busHang => startRollback c (.fault .busHang) s
  | .cut => startRollback c (.fault .busReset) s
  | .answer _ => s
  | .identifyParity => s

/-! ### The start of a bus reset (R104) -/

/-- The outcome a cycle has when a bus reset starts: the decided one in END, else CUT (R19). -/
def outcomeAtReset (c : Cycle) : CycleOutcome :=
  match c.phase with
  | .ending o => o
  | .select1 => .cut
  | .select2 => .cut
  | .response _ => .cut
  | .turnaround => .cut
  | .dataHigh => .cut
  | .dataLow _ _ => .cut
  | .pulse _ _ => .cut
  | .sense _ => .cut
  | .answer _ => .cut

/-- The fault record a cycle's outcome writes (R101, R102). -/
def writeCycleFault (o : CycleOutcome) (n : Option Station) (s : State) : State :=
  match o with
  | .protocol => writeFault .protocol n s
  | .busHang => writeFault .busHang n s
  | .ack _ => s
  | .defer => s
  | .noResponse => s
  | .parity _ => s
  | .answer _ => s
  | .identifyParity => s
  | .cut => s

/-- A MOVING channel whose word has no cycle in flight meets a bus reset: in its memory steps before the cycle it receives
CUT (R104); on its fault path or taking an outcome it goes on with that (R145), and a hang it was rolling back from is
written as its bus work ends here (R102, assumption 19). -/
def wordMeetsReset (c : Channel) (n : Option Station) (s : State) : State :=
  match (s.channels[c]).state with
  | .moving .countRead => channelOutcome c .cut s
  | .moving .countWrite => channelOutcome c .cut s
  | .moving .zeroAddrRead => channelOutcome c .cut s
  | .moving .addrRead => channelOutcome c .cut s
  | .moving .addrWrite => channelOutcome c .cut s
  | .moving .outRead => channelOutcome c .cut s
  | .moving (.ask _) => channelOutcome c .cut s
  | .moving .inCycle => channelOutcome c .cut s
  | .moving (.inWrite _) => s
  | .moving (.rollCount (.fault .busHang)) => writeFault .busHang n s
  | .moving (.rollAddr (.fault .busHang)) => writeFault .busHang n s
  | .moving (.rollCount _) => s
  | .moving (.rollAddr _) => s
  | .idle => s
  | .loading _ => s
  | .active => s
  | .ended => s
  | .faulted => s

/-- The owner of bus work that a bus reset ends takes the outcome (R104): the queue and the channel take it as at the end of
a cycle, the Attention Controller as R160 gives; a decided PROTOCOL or BUS_HANG writes its fault record (R101, R102). -/
def ownerMeetsReset (w : BusWork) (s : State) : State :=
  match w.owner, w.cycle with
  | .queue t, some c => writeCycleFault (outcomeAtReset c) w.station (requestOutcome t (outcomeAtReset c) s)
  | .channel ch, some c => writeCycleFault (outcomeAtReset c) w.station (channelOutcome ch (outcomeAtReset c) s)
  | .channel ch, none => wordMeetsReset ch w.station s
  | .attention, some c => identifyMeetsReset (outcomeAtReset c) s
  | .queue _, none => s
  | .attention, none => s

/-- The Request Queue at the start of a bus reset: timers cancelled, BACKOFF records back to WAITING (R60). -/
def requestsMeetReset (s : State) : State :=
  { s with
    rq := {
      records := s.rq.records.map fun r => if r.state = .backoff then { r with state := .waiting } else r
      backoff := Vector.replicate 15 none } }

/-- A channel that is LOADING or ACTIVE at the start of a bus reset faults BUS_RESET (R146). -/
def channelMeetsReset (c : Channel) (s : State) : State :=
  match (s.channels[c]).state with
  | .loading _ => enterFaulted c .busReset s
  | .active => enterFaulted c .busReset s
  | .idle => s
  | .moving _ => s
  | .ended => s
  | .faulted => s

/-- Every channel at the start of a bus reset. -/
def channelsMeetReset (s : State) : State :=
  channelMeetsReset 3 (channelMeetsReset 2 (channelMeetsReset 1 (channelMeetsReset 0 s)))

/-- The bus state of an interval's first period; SAD stays released for that period where SDIR was 1 (R18). -/
def resettingFrom (s : State) : Bus := .resetting 1 (pins s).sdir

/-- The start of a bus reset by the BUS_RESET command or after a hang (R104): bus work ends and its owner takes the outcome,
then the queue, the channels and the Attention Controller take their effects. -/
def startBusReset (s : State) : State :=
  let s1 := match s.engine.bus with
    | .cycle w => ownerMeetsReset w (workEnded (s.setBus (resettingFrom s)))
    | .idle => s.setBus (resettingFrom s)
    | .resetting _ _ => s.setBus (resettingFrom s)
  clearAttention (channelsMeetReset (requestsMeetReset s1))

end Sys2Proof.Machine
end

