-- ==== Sys2Proof/Machine/ChannelWord.lean ====
section
/-! DEFINITION. The memory accesses of the block channels, one at a time as the arbiter serves them (R112, R113), and the
meanings of CCB_LOAD, CHANNEL_COUNT_STEP, CHANNEL_ADDRESS_STEP, CHANNEL_DATA_STEP, IN_DATA_WRITE and CHANNEL_ROLLBACK. Each
slot goes to the channel the rotation offers, so a step can be parted by another channel's access or by a window access
(assumptions 6, 7). -/

namespace Sys2Proof.Machine

/-- The address of a CCB word: CCB address + offset (R121). -/
def ccbWord (r : ChannelRec) (offset : Nat) : Nat := r.ccb.toNat + offset

/-- The data address of the word in flight, a number without wrap: the kept address, plus 1 with HOLD clear (R122, R131). -/
def dataAddress (r : ChannelRec) (k : Control) : Nat := (r.keptAddress.getD 0).toNat + (if k.hold then 0 else 1)

/-- The checks of a LOAD on the words read, in order (R127): the working control, or the reason of the first that fails. -/
def loadCheck (s : State) (c : Channel) (control count : Word) : Except Reason Control :=
  match Control.ofWord control with
  | none => .error .badCcb
  | some k =>
    if !(s.profiles[k.station]).enabled then .error .stationOff
    else if k.paced && (s.alerts.config[k.station.source]).routing != .channel c then .error .badCcb
    else if count = 0 then .error .badCcb
    else .ok k

/-- The end of a LOAD: FAULTED with the reason, or the working control and link set and ACTIVE, ENDED(STOPPED) on a stop
request (R127, R141). -/
def finishLoad (c : Channel) (control count link : Word) (s : State) : State :=
  match loadCheck s c control count with
  | .error reason => enterFaulted c reason s
  | .ok k => resumeOrStop c false (s.setChannel c { s.channels[c] with control := some k, link := some link })

/-- The range check of a channel word (R132): RANGE, then STATION_OFF, else on to the data step. -/
def rangeCheck (c : Channel) (k : Control) (s : State) : State :=
  let p := s.profiles[k.station]
  if p.registerCount.toNat ≤ k.offset.toNat then startRollback c (.fault .range) s
  else if !p.enabled then startRollback c (.fault .stationOff) s
  else s.setChannel c { s.channels[c] with state := .moving (if k.out then .outRead else .ask none) }

/-- The end of a rollback (R137): the channel leaves MOVING; after a hang whose bus work ends here the fault is written and
the automatic bus reset starts (R102). -/
def finishRollback (c : Channel) (e : WordEnd) (s : State) : State :=
  let n := (s.channels[c]).control.map fun k => k.station
  if ownsBus c s && e == .fault .busHang then startBusReset (writeFault .busHang n (leaveMoving c e s))
  else leaveMoving c e s

/-- The channel waits for a memory access (R113). -/
def wantsMemory (x : ChState) : Bool :=
  match x with
  | .loading _ => true
  | .moving .countRead => true
  | .moving .countWrite => true
  | .moving .zeroAddrRead => true
  | .moving .addrRead => true
  | .moving .addrWrite => true
  | .moving .outRead => true
  | .moving (.inWrite _) => true
  | .moving (.rollCount _) => true
  | .moving (.rollAddr _) => true
  | .moving (.ask _) => false
  | .moving .inCycle => false
  | .idle => false
  | .active => false
  | .ended => false
  | .faulted => false

/-- The arbiter's records after it has served the Block Channels: last served, and the rotation pointer (R112, R113). -/
def servedChannel (c : Channel) (s : State) : State :=
  { s with xmem := { s.xmem with lastServed := .channels, rotation := c } }

/-- What a word step of a MOVING channel does with its memory access (R130, R131, R133, R134, R137). -/
def wordAccess (c : Channel) (k : Control) (w : WordStep) (s : State) : State :=
  let r := s.channels[c]
  let m := s.xmem.mem
  match w with
  | .countRead =>
    let v := Memory.read m (ccbWord r 1)
    s.setChannel c { r with keptCount := some v, state := .moving (if v = 0 then .zeroAddrRead else .countWrite) }
  | .countWrite =>
    (s.setMem (Memory.write m (ccbWord r 1) (r.keptCount.getD 0 + 1))).setChannel c { r with state := .moving .addrRead }
  | .zeroAddrRead =>
    startRollback c (.fault .badCcb) (s.setChannel c { r with keptAddress := some (Memory.read m (ccbWord r 2)) })
  | .addrRead =>
    let r' := { r with keptAddress := some (Memory.read m (ccbWord r 2)) }
    let s1 := s.setChannel c r'
    if 0xFFF < dataAddress r' k then startRollback c (.fault .address) s1
    else if k.hold then rangeCheck c k s1
    else s1.setChannel c { r' with state := .moving .addrWrite }
  | .addrWrite => rangeCheck c k (s.setMem (Memory.write m (ccbWord r 2) (BitVec.ofNat 16 (dataAddress r k))))
  | .outRead => s.setChannel c { r with state := .moving (.ask (some (Memory.read m (dataAddress r k)))) }
  | .inWrite data => channelAck c (s.setMem (Memory.write m (dataAddress r k) data))
  | .rollCount e =>
    let s1 := s.setMem (Memory.write m (ccbWord r 1) (r.keptCount.getD 0))
    match r.keptAddress with
    | none => finishRollback c e s1
    | some _ => s1.setChannel c { r with state := .moving (.rollAddr e) }
  | .rollAddr e => finishRollback c e (s.setMem (Memory.write m (ccbWord r 2) (r.keptAddress.getD 0)))
  | .ask _ => s
  | .inCycle => s

/-- What a LOAD does with its memory access (R126). -/
def loadAccess (c : Channel) (l : LoadStep) (s : State) : State :=
  let r := s.channels[c]
  let m := s.xmem.mem
  match l with
  | .control => s.setChannel c { r with state := .loading (.count (Memory.read m (ccbWord r 0))) }
  | .count control => s.setChannel c { r with state := .loading (.link control (Memory.read m (ccbWord r 1))) }
  | .link control count => finishLoad c control count (Memory.read m (ccbWord r 3)) s

/-- One memory access of a channel that waits for one, with all it brings about (R113). -/
def channelAccess (c : Channel) (s : State) : State :=
  let r := s.channels[c]
  if wantsMemory r.state then
    match r.state with
    | .loading l => loadAccess c l (servedChannel c s)
    | .moving w =>
      match r.control with
      | some k => wordAccess c k w (servedChannel c s)
      | none => s
    | .idle => s
    | .active => s
    | .ended => s
    | .faulted => s
  else s

/-- The channel whose access the Block Channels offer to the arbiter: the first that waits, in rotation (R113). -/
def offeredChannel (s : State) : Option Channel :=
  (roundRobin s.xmem.rotation).find? fun c => wantsMemory (s.channels[c]).state

/-- One memory slot granted to the Block Channels: the offered channel's access is served (R112, R113). -/
def channelsSlot (s : State) : State :=
  match offeredChannel s with
  | some c => channelAccess c s
  | none => s

/-- Memory slots of the Block Channels while the channel stands in a step, at most `n` of them: other channels that wait have
their turns in the rotation meanwhile (R113). -/
def serveSlots (inStep : ChState → Bool) (c : Channel) : Nat → State → State
  | 0, s => s
  | n + 1, s => if inStep (s.channels[c]).state then serveSlots inStep c n (channelsSlot s) else s

/-- LOAD (R126). -/
def inLoad : ChState → Bool
  | .loading _ => true
  | .idle => false
  | .active => false
  | .moving _ => false
  | .ended => false
  | .faulted => false

/-- The count step, with the address read of a count 0000h (R130). -/
def inCountStep (x : ChState) : Bool := x == .moving .countRead || x == .moving .countWrite || x == .moving .zeroAddrRead

/-- The address step (R131). -/
def inAddressStep (x : ChState) : Bool := x == .moving .addrRead || x == .moving .addrWrite

/-- The read of the OUT word (R133). -/
def inOutRead (x : ChState) : Bool := x == .moving .outRead

/-- The write of the IN word (R134). -/
def inDataWriteStep : ChState → Bool
  | .moving (.inWrite _) => true
  | .moving .countRead => false
  | .moving .countWrite => false
  | .moving .zeroAddrRead => false
  | .moving .addrRead => false
  | .moving .addrWrite => false
  | .moving .outRead => false
  | .moving (.ask _) => false
  | .moving .inCycle => false
  | .moving (.rollCount _) => false
  | .moving (.rollAddr _) => false
  | .idle => false
  | .loading _ => false
  | .active => false
  | .ended => false
  | .faulted => false

/-- The rollback writes (R137). -/
def inRollback : ChState → Bool
  | .moving (.rollCount _) => true
  | .moving (.rollAddr _) => true
  | .moving .countRead => false
  | .moving .countWrite => false
  | .moving .zeroAddrRead => false
  | .moving .addrRead => false
  | .moving .addrWrite => false
  | .moving .outRead => false
  | .moving (.ask _) => false
  | .moving .inCycle => false
  | .moving (.inWrite _) => false
  | .idle => false
  | .loading _ => false
  | .active => false
  | .ended => false
  | .faulted => false

/-- The profile values a cycle to the station captures (R4, R28). -/
def captureProfile (p : Profile) : Captured :=
  { window := p.responseWindow, hold := p.holdLimit, spacing := p.pulseSpacing, parity := p.parityCheck }

/-- The first period of a station cycle (R4). -/
def newCycle (p : Option Profile) : Cycle := { captured := p.map captureProfile, phase := .select1, hold := 0 }

/-- A channel word asks for its station cycle and the Engine begins it: WRITE of the word read for OUT, READ for IN, with the
profile values of that moment (R90, R133). -/
def beginWordCycle (c : Channel) (s : State) : State :=
  match s.engine.bus, (s.channels[c]).state, (s.channels[c]).control with
  | .cycle w, .moving (.ask data), some k =>
    if w.owner = .channel c then
      (s.setBus (.cycle { w with data := data.getD 0, cycle := some (newCycle (some s.profiles[k.station])) })).setChannel c
        { s.channels[c] with state := .moving .inCycle }
    else s
  | _, _, _ => s

/-- CCB_LOAD: the reads of the LOAD, then its checks (R126, R127). -/
def execCcbLoad (x : Service) (s : State) : Host.Outcome State Fault Refusal := .next (serveSlots inLoad x.channel x.slots s)

/-- CHANNEL_COUNT_STEP (R130). -/
def execChannelCountStep (x : Service) (s : State) : Host.Outcome State Fault Refusal :=
  .next (serveSlots inCountStep x.channel x.slots s)

/-- CHANNEL_ADDRESS_STEP, with the range check (R131, R132). -/
def execChannelAddressStep (x : Service) (s : State) : Host.Outcome State Fault Refusal :=
  .next (serveSlots inAddressStep x.channel x.slots s)

/-- CHANNEL_DATA_STEP: the OUT word is read, and the station cycle begins (R133, R90). -/
def execChannelDataStep (x : Service) (s : State) : Host.Outcome State Fault Refusal :=
  .next (beginWordCycle x.channel (serveSlots inOutRead x.channel x.slots s))

/-- IN_DATA_WRITE: the received word goes to memory and the word ends as R134 gives. -/
def execInDataWrite (x : Service) (s : State) : Host.Outcome State Fault Refusal :=
  .next (serveSlots inDataWriteStep x.channel x.slots s)

/-- CHANNEL_ROLLBACK: the rollback writes; with the last the channel leaves MOVING (R137). -/
def execChannelRollback (x : Service) (s : State) : Host.Outcome State Fault Refusal :=
  .next (serveSlots inRollback x.channel x.slots s)

end Sys2Proof.Machine
end

