-- ==== Sys2Proof/Machine/Engine.lean ====
section
/-! DEFINITION. The Engine's choice and its grants (R86 to R90, R48), run control (R94 to R96) and the divider (R2): the
meanings of DISPATCH_CHOICE, RUN, STOP, STEP and DIVIDER_TAKES_EFFECT. -/

namespace Sys2Proof.Machine

/-! ### Grants -/

/-- An IDENTIFY is granted: its cycle begins, the identify mark is set, the interval timer stops (R87, R90, R152). -/
def grantIdentify (s : State) : State :=
  let work : BusWork :=
    { owner := .attention, kind := .identify, station := none, operand := 0, data := 0, cycle := some (newCycle none) }
  { s.setBus (.cycle work) with
    attn := { s.attn with mark := true, timer := .stopped } }

/-- A channel word is granted: the pointer names the channel, the channel goes MOVING, the bus is held for it (R89, R90,
R130). -/
def grantWord (c : Channel) (s : State) : State :=
  let r := s.channels[c]
  match r.control with
  | none => s
  | some k =>
    let work : BusWork :=
      { owner := .channel c, kind := if k.out then .write else .read, station := some k.station, operand := k.offset
        data := 0, cycle := none }
    { s with
      engine := { s.engine with pointer := c, bus := .cycle work }
      channels := s.channels.set c { r with state := .moving .countRead } }

/-- The bus work record of a request's cycle (R49, R85). -/
def requestWork (s : State) (r : Request) : Option BusWork :=
  let work (kind : CycleKind) (n : Station) (operand : Byte) (data : Word) : Option BusWork :=
    some { owner := .queue r.tag, kind := kind, station := some n, operand := operand, data := data
           cycle := some (newCycle (some s.profiles[n])) }
  match r.body with
  | .write n offset data _ => work .write n offset data
  | .read n offset => work .read n offset 0
  | .control n mask => work .control n (0#5 ++ mask) 0
  | .fence => none

/-- The offset the register count bounds: of a WRITE or READ (R31). -/
def RequestBody.offset : RequestBody → Option Byte
  | .write _ offset _ _ => some offset
  | .read _ offset => some offset
  | .control _ _ => none
  | .fence => none

/-- The status a granted record retires with at dispatch, none where its cycle begins (R48). -/
def dispatchStatus (s : State) (r : Request) : Option Status :=
  match r.body.station with
  | none => some .ok
  | some n =>
    let p := s.profiles[n]
    if !p.enabled then some .stationOff
    else match r.body.offset with
      | some offset => if p.registerCount.toNat ≤ offset.toNat then some .range else none
      | none => none

/-- The record becomes ACTIVE, taking a reservation at its first dispatch (R47, R48). -/
def activate (r : Request) (s : State) : State :=
  let s1 := s.updateRequest { r with state := .active, reserved := true }
  if r.reserved then s1 else { s1 with cq := { s1.cq with reserved := s1.cq.reserved + 1 } }

/-- A request is granted: the share counter is cleared; it retires at dispatch or its cycle begins (R48, R88, R90). -/
def grantRequest (r : Request) (s : State) : State :=
  let s1 := activate r { s with engine := { s.engine with share := 0 } }
  let r1 := { r with state := .active, reserved := true }
  match dispatchStatus s r with
  | some st => retire r1 st 0 s1
  | none =>
    match requestWork s r1 with
    | some w => s1.setBus (.cycle w)
    | none => s1

/-- The share rule (R88). -/
def grantShared (s : State) : State :=
  match candidate s, nextChannel s with
  | some r, none => grantRequest r s
  | none, some c => grantWord c s
  | some r, some c =>
    if s.engine.share < shareLimit s then grantWord c { s with engine := { s.engine with share := s.engine.share + 1 } }
    else grantRequest r s
  | none, none => s

/-- DISPATCH_CHOICE: one choice and its grant (R86 to R90). Where the conditions of a choice do not hold, or nothing is
offered, the Engine makes none and waits (R86). -/
def execDispatchChoice (s : State) : Host.Outcome State Fault Refusal :=
  .next (if mayChoose s then (if identifyDue s then grantIdentify s else grantShared s) else s)

/-! ### Run control -/

/-- RUN (R94). -/
def runEngine (s : State) : State := (s.setRun .running).setResult .ok

/-- STOP (R95). -/
def stopEngine (s : State) : State :=
  (match s.engine.run with
    | .running => if s.busy then s.setRun .stopping else enterHalted s
    | .stepping => if s.busy then s.setRun .stopping else enterHalted s
    | .stopping => s
    | .halted => s).setResult .ok

/-- STEP (R96). -/
def stepEngine (s : State) : State :=
  match s.engine.run with
  | .halted => (s.setRun .stepping).setResult .ok
  | .running => s.setResult .badState
  | .stopping => s.setResult .badState
  | .stepping => s.setResult .badState

/-- RUN, CMD 01h. -/
def execRun (s : State) : Host.Outcome State Fault Refusal := .next (windowCommand runEngine s)

/-- STOP, CMD 02h. -/
def execStop (s : State) : Host.Outcome State Fault Refusal := .next (windowCommand stopEngine s)

/-- STEP, CMD 03h. -/
def execStep (s : State) : Host.Outcome State Fault Refusal := .next (windowCommand stepEngine s)

/-! ### The divider -/

/-- A cycle is in flight: a station bus cycle, not the memory steps of a channel word (R1, R2). -/
def cycleInFlight (s : State) : Bool :=
  match s.engine.bus with
  | .cycle w => w.cycle.isSome
  | .idle => false
  | .resetting _ _ => false

/-- The written divider takes effect (R2). -/
def takeDivider (s : State) : State := { s with engine := { s.engine with divider := s.cfg.divider } }

/-- The written divider takes effect at a boundary with no cycle and no interval in flight (R2). A value written during a cycle
that a BUS_RESET command cuts waits for the interval's end: that cycle ends inside the interval's first period (R19), and
which of R2's two times holds there is the model's choice (assumption 31). -/
def applyDivider (s : State) : State := if cycleInFlight s || s.resetting then s else takeDivider s

/-- DIVIDER_TAKES_EFFECT (R2). -/
def execDividerTakesEffect (s : State) : Host.Outcome State Fault Refusal := .next (applyDivider s)

end Sys2Proof.Machine
end

