-- ==== Sys2Proof/Machine/Cycle.lean ====
section
/-! DEFINITION. The station bus cycle (R4 to R17): the meanings of the samples and limits that decide a response, a byte, a
sense level, an answer (STATION_RESPONSE, RESPONSE_WINDOW_EXPIRY, BYTE_TRANSFER, HOLD_LIMIT_REACHED, SENSE_SAMPLE,
ANSWER_CHECK_SAMPLE), and of CYCLE_END. An event stands for the periods of the cycle up to it (assumption 4); a line is not
sampled outside its phase, so there the event changes nothing (R6, R10, R14). -/

namespace Sys2Proof.Machine

/-- The cycle in flight stands in the given phase and hold count from here on. -/
def setCycle (s : State) (w : BusWork) (c : Cycle) : State := s.setBus (.cycle { w with cycle := some c })

/-- Apply an event to the cycle in flight; nothing where there is none. -/
def onCycle (f : BusWork → Cycle → Cycle) (s : State) : State :=
  match s.engine.bus with
  | .cycle w =>
    match w.cycle with
    | some c => setCycle s w (f w c)
    | none => s
  | .idle => s
  | .resetting _ _ => s

/-- An outcome is decided: END follows (R4). -/
def Cycle.decide (c : Cycle) (o : CycleOutcome) : Cycle := { c with phase := .ending o }

/-- A cycle kind with a response phase (Table 3 of spec/01). -/
def CycleKind.hasResponse : CycleKind → Bool
  | .write => true | .read => true | .control => true | .identify => false

/-- The cycle stands in its RESPONSE phase or the SELECT phase before it (R5, R6). -/
def beforeResponse (w : BusWork) (c : Cycle) : Bool :=
  w.kind.hasResponse &&
    match c.phase with
    | .select1 => true
    | .select2 => true
    | .response _ => true
    | _ => false

/-- The first period of the PULSE phase for the lines left, or of SENSE after the last (R13, R14). -/
def pulseFrom (lines : List PulseLine) : Phase :=
  match lines with
  | [] => .sense 1
  | l :: rest => .pulse (l :: rest) 1

/-- The phase after an ACK (Table 5 of spec/01). -/
def afterAck (w : BusWork) : Phase :=
  match w.kind with
  | .write => .dataHigh
  | .read => .turnaround
  | .control => pulseFrom (pulseLines (w.operand.extractLsb' 0 3))
  | .identify => .turnaround

/-- A sample of SRSP in the response window (R6): 00b decides nothing. -/
def respond (code : BitVec 2) (w : BusWork) (c : Cycle) : Cycle :=
  if beforeResponse w c then
    match code.toNat with
    | 1 => { c with phase := afterAck w }
    | 2 => c.decide .defer
    | 3 => c.decide .protocol
    | _ => c
  else c

/-- The response window has run out in silence (R6). -/
def silence (w : BusWork) (c : Cycle) : Cycle := if beforeResponse w c then c.decide .noResponse else c

/-- The parity error of a READ byte: even parity with the captured check on (R12). -/
def parityError (c : Cycle) (sad : Byte) (spar : Bool) : Bool :=
  (c.captured.map fun p => p.parity && !parityGood sad spar).getD false

/-- The outcome of a READ whose two bytes have transferred (R9, R12). -/
def readOutcome (high low : Byte) (bad : Bool) : CycleOutcome := if bad then .parity (high ++ low) else .ack (some (high ++ low))

/-- A byte transfers (R8, R9): the part's own byte on a WRITE, the levels sampled on a READ. -/
def transferByte (sad : Byte) (spar : Bool) (w : BusWork) (c : Cycle) : Cycle :=
  match w.kind, c.phase with
  | .write, .dataHigh => { c with phase := .dataLow 0 false }
  | .write, .dataLow _ _ => c.decide (.ack none)
  | .read, .turnaround => { c with phase := .dataLow sad (parityError c sad spar) }
  | .read, .dataHigh => { c with phase := .dataLow sad (parityError c sad spar) }
  | .read, .dataLow high bad => c.decide (readOutcome high sad (bad || parityError c sad spar))
  | _, _ => c

/-- 16 times the captured hold limit (R10). -/
def holdProduct (c : Cycle) : Nat := (c.captured.map fun p => 16 * p.hold.toNat).getD 0

/-- The cycle stands in its DATA phase, or in the TURNAROUND before it (R9, R10). -/
def inData (w : BusWork) (c : Cycle) : Bool :=
  match w.kind, c.phase with
  | .write, .dataHigh => true
  | .write, .dataLow _ _ => true
  | .read, .turnaround => true
  | .read, .dataHigh => true
  | .read, .dataLow _ _ => true
  | _, _ => false

/-- The hold count reaches its limit: BUS_HANG (R11). -/
def hang (w : BusWork) (c : Cycle) : Cycle :=
  if inData w c then { c with phase := .ending .busHang, hold := holdProduct c } else c

/-- SSENSE is sampled after the last pulse (R14). -/
def sampleSense (level : Bool) (_w : BusWork) (c : Cycle) : Cycle :=
  match c.phase with
  | .pulse _ _ => c.decide (.ack (some (if level then 1 else 0)))
  | .sense _ => c.decide (.ack (some (if level then 1 else 0)))
  | _ => c

/-- The low answer byte is checked (R15, R16): ANSWER with both bytes of odd parity, else IDENTIFY_PARITY. -/
def checkAnswer (high : Byte) (highSpar : Bool) (low : Byte) (lowSpar : Bool) (w : BusWork) (c : Cycle) : Cycle :=
  let o := if parityGood high highSpar && parityGood low lowSpar then CycleOutcome.answer (high ++ low) else .identifyParity
  match w.kind, c.phase with
  | .identify, .select1 => c.decide o
  | .identify, .turnaround => c.decide o
  | .identify, .answer _ => c.decide o
  | _, _ => c

/-- STATION_RESPONSE (R6, R7). -/
def execStationResponse (code : BitVec 2) (s : State) : Host.Outcome State Fault Refusal := .next (onCycle (respond code) s)

/-- RESPONSE_WINDOW_EXPIRY (R6). -/
def execResponseWindowExpiry (s : State) : Host.Outcome State Fault Refusal := .next (onCycle silence s)

/-- BYTE_TRANSFER (R8, R9, R12). -/
def execByteTransfer (sad : Byte) (spar : Bool) (s : State) : Host.Outcome State Fault Refusal :=
  .next (onCycle (transferByte sad spar) s)

/-- HOLD_LIMIT_REACHED (R11). -/
def execHoldLimitReached (s : State) : Host.Outcome State Fault Refusal := .next (onCycle hang s)

/-- SENSE_SAMPLE (R14). -/
def execSenseSample (level : Bool) (s : State) : Host.Outcome State Fault Refusal := .next (onCycle (sampleSense level) s)

/-- ANSWER_CHECK_SAMPLE (R15, R16). -/
def execAnswerCheckSample (high : Byte) (highSpar : Bool) (low : Byte) (lowSpar : Bool) (s : State) :
    Host.Outcome State Fault Refusal :=
  .next (onCycle (checkAnswer high highSpar low lowSpar) s)

/-! ### CYCLE_END -/

/-- After a hang whose bus work has ended, the automatic bus reset starts (R102). -/
def resetAfterHang (o : CycleOutcome) (s : State) : State := if o = .busHang then startBusReset s else s

/-- The END period ends: the outcome goes to the owner of the work (R92). For a request and an IDENTIFY the bus work ends with
the cycle (R85, R93); a channel word goes on until its channel leaves MOVING. PROTOCOL and BUS_HANG write the fault record,
BUS_HANG when the bus work ends (R101, R102). -/
def deliver (w : BusWork) (o : CycleOutcome) (s : State) : State :=
  match w.owner with
  | .queue t => resetAfterHang o (writeCycleFault o w.station (requestOutcome t o (endBusWork s)))
  | .attention => attentionOutcome o (endBusWork s)
  | .channel c =>
    let s1 := channelOutcome c o (s.setBus (.cycle { w with cycle := none }))
    if o = .protocol then writeFault .protocol w.station s1 else s1

/-- CYCLE_END (R4, R92): the cycle in its END period ends, a divider value written meanwhile takes effect (R2), ahead of the
interval that a hang starts, and the outcome is delivered. A cycle that is not in END does not end. -/
def execCycleEnd (s : State) : Host.Outcome State Fault Refusal :=
  .next (match s.engine.bus with
    | .cycle w =>
      match w.cycle with
      | some c =>
        match c.phase with
        | .ending o => deliver w o (takeDivider s)
        | _ => s
      | none => s
    | .idle => s
    | .resetting _ _ => s)

end Sys2Proof.Machine
end

