-- ==== Sys2Proof/Machine/Queues.lean ====
section
/-! DEFINITION. The Request Queue and Completion Queue commands and the backoff timers (R40, R41, R56, R58, R77): the meanings
of POST, FLUSH, POP and BACKOFF_EXPIRY. -/

namespace Sys2Proof.Machine

/-- POST: the checks in order, then a WAITING record at the tail and its tag in use (R40, R41). -/
def postRequest (s : State) : State :=
  match s.port.sub.body with
  | none => s.setResult .badField
  | some body =>
    let t := s.port.sub.tag
    if s.cq.tags[t.toNat] then s.setResult .tagBusy
    else if Config.requestDepth ≤ s.rq.records.length then s.setResult .queueFull
    else
      let r : Request := { tag := t, body := body, state := .waiting, defers := 0, reserved := false }
      ({ s with
        rq := { s.rq with records := s.rq.records ++ [r] }
        cq := { s.cq with tags := s.cq.tags.set t.toNat true } }).setResult .ok

/-- A record FLUSH removes: WAITING or BACKOFF (R58). -/
def flushable (r : Request) : Bool := r.state != .active

/-- The tag-in-use set without the tags of some records (R58). -/
def freeTags (tags : Vector Bool 64) (rs : List Request) : Vector Bool 64 :=
  rs.foldl (fun v r => v.set r.tag.toNat false) tags

/-- FLUSH: every record but the ACTIVE one is removed, its tag freed and its reservation released; ARG2 counts them (R58,
R59). -/
def flushRequests (s : State) : State :=
  let gone : List Request := s.rq.records.filter flushable
  (({ s with
    rq := { s.rq with records := s.rq.records.filter (fun r => !flushable r) }
    cq := { s.cq with
      reserved := s.cq.reserved - (gone.filter fun (r : Request) => r.reserved).length
      tags := freeTags s.cq.tags gone } }).setArg2 (BitVec.ofNat 16 gone.length)).setResult .ok

/-- POP: the head completion is removed and its tag freed, or EMPTY (R77). -/
def popCompletion (s : State) : State :=
  match s.cq.records with
  | [] => s.setResult .empty
  | c :: rest =>
    ({ s with cq := { s.cq with records := rest, tags := s.cq.tags.set c.tag.toNat false } }).setResult .ok

/-- The station's BACKOFF record returns to WAITING (R56). -/
def returnFromBackoff (n : Station) (r : Request) : Request :=
  if r.state = .backoff ∧ r.body.station = some n then { r with state := .waiting } else r

/-- A running timer expires (R56). -/
def expireBackoff (n : Station) (s : State) : State :=
  match s.rq.backoff[n] with
  | none => s
  | some _ => (s.setRequests (s.rq.records.map (returnFromBackoff n))).setBackoff n none

/-- POST, CMD 10h. -/
def execPost (s : State) : Host.Outcome State Fault Refusal := .next (windowCommand postRequest s)

/-- FLUSH, CMD 04h. -/
def execFlush (s : State) : Host.Outcome State Fault Refusal := .next (windowCommand flushRequests s)

/-- POP, CMD 11h. -/
def execPop (s : State) : Host.Outcome State Fault Refusal := .next (windowCommand popCompletion s)

/-- BACKOFF_EXPIRY (R56). A stopped timer has no last period. -/
def execBackoffExpiry (n : Station) (s : State) : Host.Outcome State Fault Refusal := .next (expireBackoff n s)

end Sys2Proof.Machine
end

