-- ==== Sys2Proof/Machine/Stations.lean ====
section
/-! DEFINITION. Station profiles, alert sources and alert lines (R25, R26, R170 to R172, R178, R179): the meanings of
PROF_APPLY, PROF_LOAD, SRC_APPLY, SRC_LOAD, TAKE, END and CLEAR_FAULT. -/

namespace Sys2Proof.Machine

/-- Disabling a station clears its pending flag, fresh flag and previous-answer bit (R32). -/
def disableStation (n : Station) (s : State) : State :=
  s.setStation n { s.attn.stations[n] with pending := false, fresh := false, previous := false }

/-- PROF_APPLY: the staged profile replaces the selected station's whole, or BAD_FIELD and nothing changes (R25, R32, R34). -/
def applyProfile (s : State) : State :=
  match Station.ofNumber s.port.profSel.toNat with
  | none => s.setResult .badField
  | some n =>
    if s.port.prof.legal then
      let s1 := { s with profiles := s.profiles.set n s.port.prof }
      (if (s.profiles[n]).enabled && !s.port.prof.enabled then disableStation n s1 else s1).setResult .ok
    else s.setResult .badField

/-- PROF_LOAD: the selected station's profile into the staging words, or BAD_FIELD (R26). -/
def loadProfile (s : State) : State :=
  match Station.ofNumber s.port.profSel.toNat with
  | none => s.setResult .badField
  | some n => ({ s with port := { s.port with prof := s.profiles[n] } }).setResult .ok

/-- The routing SRC_APPLY may give the source: code 3 is none, sources 16 to 19 take no channel (R170 step 2). -/
def stagedRouting (s : State) (x : Source) : Option Routing :=
  match Routing.ofCode s.port.src.routing with
  | some (.channel c) => if x.station.isSome then some (.channel c) else none
  | r => r

/-- What a routing change clears: the pending and fresh flags of a station source (its previous-answer bit stays), or the
pending flag of source 19; the flags of 16 to 18 are computed (R163, R171). -/
def clearRouted (x : Source) (s : State) : State :=
  match x.station with
  | some n => s.setStation n { s.attn.stations[n] with pending := false, fresh := false }
  | none => if x = Source.halted then { s with alerts := { s.alerts with haltedPending := false } } else s

/-- The staged sense, for a station source only (R171). -/
def applySense (x : Source) (s : State) : State :=
  match x.station with
  | some n => { s with alerts := { s.alerts with sense := s.alerts.sense.set n s.port.src.sense } }
  | none => s

/-- SRC_APPLY: the checks in order, then routing, sense and priority in one step (R170, R171). -/
def applySource (s : State) : State :=
  match Source.ofNumber s.port.srcSel.toNat with
  | none => s.setResult .badField
  | some x =>
    match stagedRouting s x with
    | none => s.setResult .badField
    | some route =>
      if inService s x then s.setResult .sourceBusy
      else
        let s1 := if (s.alerts.config[x]).routing = route then s else clearRouted x s
        let s2 := applySense x s1
        ({ s2 with
          alerts := { s2.alerts with
            config := s2.alerts.config.set x { routing := route, priority := s.port.src.priority } } }).setResult .ok

/-- SRC_LOAD: the selected source's configuration into SRC_CFG, or BAD_FIELD (R172). -/
def loadSource (s : State) : State :=
  match Source.ofNumber s.port.srcSel.toNat with
  | none => s.setResult .badField
  | some x =>
    let staged : SourceStaging :=
      { routing := (s.alerts.config[x]).routing.code, sense := sourceSense s x, priority := (s.alerts.config[x]).priority }
    ({ s with port := { s.port with src := staged } }).setResult .ok

/-- The line ARG0 names (R178, R179). -/
def argLine (s : State) : Option Line :=
  if h : s.port.arg0.toNat < 2 then some ⟨s.port.arg0.toNat, h⟩ else none

/-- Put a source into a line's in-service set, or take it out (R175). -/
def setInService (l : Line) (x : Source) (v : Bool) (s : State) : State :=
  { s with
    alerts := { s.alerts with inService := s.alerts.inService.set l ((s.alerts.inService[l]).set x v) } }

/-- What a TAKE does to the pending flag: an edge source's is cleared, a level source's follows its input (R178). -/
def takePending (x : Source) (s : State) : State :=
  match sourceSense s x with
  | .level => s
  | .edge =>
    match x.station with
    | some n => s.setStation n { s.attn.stations[n] with pending := false }
    | none => { s with alerts := { s.alerts with haltedPending := false } }

/-- TAKE (R178). -/
def takeSource (s : State) : State :=
  match argLine s with
  | none => s.setResult .badField
  | some l =>
    match presented s l with
    | none => (s.setArg2 0).setResult .ok
    | some x => ((setInService l x true (takePending x s)).setArg2 (BitVec.ofNat 16 x.number)).setResult .ok

/-- END (R179). -/
def endSource (s : State) : State :=
  match argLine s with
  | none => s.setResult .badField
  | some l =>
    if 19 < s.port.arg1.toNat then s.setResult .badField
    else
      let named := match Source.ofNumber s.port.arg1.toNat with
        | some x => if inServiceOn s l x then some x else none
        | none => topInService s l
      match named with
      | none => s.setResult .notInService
      | some x => (setInService l x false s).setResult .ok

/-- CLEAR_FAULT: the record is emptied and the Attention Controller's suspension lifted (R187). -/
def clearFaultRecord (s : State) : State :=
  ({ s with fault := none, attn := { s.attn with suspended := false } }).setResult .ok

/-- PROF_APPLY, CMD 18h. -/
def execProfApply (s : State) : Host.Outcome State Fault Refusal := .next (windowCommand applyProfile s)

/-- PROF_LOAD, CMD 19h. -/
def execProfLoad (s : State) : Host.Outcome State Fault Refusal := .next (windowCommand loadProfile s)

/-- SRC_APPLY, CMD 1Ah. -/
def execSrcApply (s : State) : Host.Outcome State Fault Refusal := .next (windowCommand applySource s)

/-- SRC_LOAD, CMD 1Bh. -/
def execSrcLoad (s : State) : Host.Outcome State Fault Refusal := .next (windowCommand loadSource s)

/-- TAKE, CMD 20h. -/
def execTake (s : State) : Host.Outcome State Fault Refusal := .next (windowCommand takeSource s)

/-- END, CMD 21h. -/
def execEndService (s : State) : Host.Outcome State Fault Refusal := .next (windowCommand endSource s)

/-- CLEAR_FAULT, CMD 06h. -/
def execClearFault (s : State) : Host.Outcome State Fault Refusal := .next (windowCommand clearFaultRecord s)

end Sys2Proof.Machine
end

