-- ==== Sys2Proof/Machine/ChannelCommands.lean ====
section
/-! DEFINITION. The channel commands (R124, R125, R140, R142): the meanings of ARM, CH_STOP and CH_ACK. -/

namespace Sys2Proof.Machine

/-- The channel ARG0 names (R124). -/
def argChannel (s : State) : Option Channel :=
  if h : s.port.arg0.toNat < 4 then some ⟨s.port.arg0.toNat, h⟩ else none

/-- The states ARM accepts: IDLE, ENDED, FAULTED (R125). -/
def armable : ChState → Bool
  | .idle => true
  | .ended => true
  | .faulted => true
  | .loading _ => false
  | .active => false
  | .moving _ => false

/-- The record an accepted ARM leaves: LOADING at the CCB address, flags cleared (R125). -/
def armedRecord (a : Addr) : ChannelRec := { ChannelRec.reset with state := .loading .control, ccb := a }

/-- ARM (R125). -/
def armChannel (s : State) : State :=
  match argChannel s with
  | none => s.setResult .badField
  | some c =>
    if !armable (s.channels[c]).state then s.setResult .chBusy
    else if 0xFFC < s.port.arg1.toNat then s.setResult .badField
    else (s.setChannel c (armedRecord (s.port.arg1.extractLsb' 0 12))).setResult .ok

/-- CH_STOP (R140). -/
def stopChannel (s : State) : State :=
  match argChannel s with
  | none => s.setResult .badField
  | some c =>
    match (s.channels[c]).state with
    | .active => (enterEnded c .stopped s).setResult .ok
    | .loading _ => (s.setChannel c { s.channels[c] with stopRequested := true }).setResult .ok
    | .moving _ => (s.setChannel c { s.channels[c] with stopRequested := true }).setResult .ok
    | .idle => s.setResult .badState
    | .ended => s.setResult .badState
    | .faulted => s.setResult .badState

/-- CH_ACK (R142). -/
def ackChannel (s : State) : State :=
  match argChannel s with
  | none => s.setResult .badField
  | some c => (s.setChannel c { s.channels[c] with endFlag := false }).setResult .ok

/-- ARM, CMD 28h. -/
def execArm (s : State) : Host.Outcome State Fault Refusal := .next (windowCommand armChannel s)

/-- CH_STOP, CMD 29h. -/
def execChStop (s : State) : Host.Outcome State Fault Refusal := .next (windowCommand stopChannel s)

/-- CH_ACK, CMD 2Ah. -/
def execChAck (s : State) : Host.Outcome State Fault Refusal := .next (windowCommand ackChannel s)

end Sys2Proof.Machine
end

