-- ==== Sys2Proof/Machine/Resets.lean ====
section
/-! DEFINITION. Resets (R18 to R20, R103 to R107, R116 to R118, R198, R203): the meanings of BUS_RESET, SOFT_RESET,
SETTLE_PERIODS_BEGIN, BUS_RESET_INTERVAL_END, RESET_ASSERT, RESET_DEASSERT and CLEAR_SWEEP_END. -/

namespace Sys2Proof.Machine

/-- BUS_RESET: a bus reset starts, or ALREADY while an interval runs (R103). -/
def busResetCommand (s : State) : State :=
  if s.resetting then s.setResult .already else (startBusReset s).setResult .ok

/-- The reset values of every block, with what no reset of the blocks touches: the SATN# level, which is the line's
(assumption 12), and the model's own counter, queue and read data. -/
def resetBlocks (s : State) : State :=
  { State.reset with
    attn := { Attention.reset with satn := s.attn.satn }
    port := { Port.reset with readData := s.port.readData, rdyHeld := s.port.rdyHeld }
    free := s.free
    pending := s.pending }

/-- SOFT_RESET: every block at its reset values but for the memory's contents, then a bus reset interval from its first
period; bus work ends with no outcome (R198, R20, R119). -/
def softReset (s : State) : State :=
  let r := resetBlocks s
  { r with
    xmem := { ExchangeMemory.reset with mem := s.xmem.mem }
    engine := { Engine.reset with bus := resettingFrom s } }

/-- A full pin reset: RESET# asserted holds every block at its reset values; the memory's contents are not defined (R116,
R203). SAD and SPAR are driven at once, also where SDIR was 1, as R20 has every output, without the released period of R1
(assumption 34: the model's choice). -/
def pinReset (s : State) : State :=
  let r := resetBlocks s
  { r with
    part := .resetAsserted
    engine := { Engine.reset with bus := .resetting 1 false }
    xmem := { ExchangeMemory.reset with mem := Memory.ofWords (Config.undefinedWord s.free) 4096 }
    free := s.free + 1 }

/-- An assertion of RESET# that lasts `held` CLKIN periods. -/
def takeReset (held : Nat) (s : State) : State :=
  if 4 ≤ held then pinReset s
  else if Config.shortResetTaken s.free then pinReset s.nextFree
  else s.nextFree

/-- RESET# asserted for `held` CLKIN periods: four or more are a pin reset; fewer have no effect or are one, a free choice
(R203, assumption 9). A RESET# already asserted is not asserted again. -/
def assertReset (held : Nat) (s : State) : State :=
  match s.part with
  | .resetAsserted => s
  | .init _ => takeReset held s
  | .running => takeReset held s

/-- RESET# deasserted: INIT, the clear sweep and the bus reset interval begin (R116, R107). -/
def deassertReset (s : State) : State :=
  match s.part with
  | .resetAsserted => { s.setBus (.resetting 1 false) with part := .init 0 }
  | .init _ => s
  | .running => s

/-- After 32 periods SRST# is deasserted and the settle periods begin (R18). Not while RESET# is asserted (R20). -/
def beginSettle (s : State) : State :=
  match s.part, s.engine.bus with
  | .resetAsserted, _ => s
  | _, .resetting k _ =>
    if k ≤ Config.resetAssertPeriods then s.setBus (.resetting (Config.resetAssertPeriods + 1) false) else s
  | _, .idle => s
  | _, .cycle _ => s

/-- The 64th period ends: the bus goes idle and a written divider takes effect (R105, R2). Not while RESET# is asserted. -/
def endInterval (s : State) : State :=
  match s.part, s.engine.bus with
  | .resetAsserted, _ => s
  | _, .resetting _ _ => takeDivider (s.setBus .idle)
  | _, .idle => s
  | _, .cycle _ => s

/-- The sweep writes FFFh: every word is 0000h and INIT ends (R118). The interval beside the sweep always ends before it, so
one that still stands in this state has ended by then (R116, assumption 4). -/
def endSweep (s : State) : State :=
  match s.part with
  | .init _ => { (endInterval s).setMem [] with part := .running }
  | .resetAsserted => s
  | .running => s

/-- BUS_RESET, CMD 05h. -/
def execBusReset (s : State) : Host.Outcome State Fault Refusal := .next (windowCommand busResetCommand s)

/-- SOFT_RESET, CMD 07h; its own result is OK (R198). -/
def execSoftReset (s : State) : Host.Outcome State Fault Refusal := .next (windowCommand softReset s)

/-- RESET_ASSERT (R203). -/
def execResetAssert (held : Nat) (s : State) : Host.Outcome State Fault Refusal := .next (assertReset held s)

/-- RESET_DEASSERT (R116). -/
def execResetDeassert (s : State) : Host.Outcome State Fault Refusal := .next (deassertReset s)

/-- CLEAR_SWEEP_END (R118). -/
def execClearSweepEnd (s : State) : Host.Outcome State Fault Refusal := .next (endSweep s)

/-- SETTLE_PERIODS_BEGIN (R18). -/
def execSettlePeriodsBegin (s : State) : Host.Outcome State Fault Refusal := .next (beginSettle s)

/-- BUS_RESET_INTERVAL_END (R105). -/
def execBusResetIntervalEnd (s : State) : Host.Outcome State Fault Refusal := .next (endInterval s)

end Sys2Proof.Machine
end

