-- ==== Sys2Proof/Machine/Window.lean ====
section
/-! DEFINITION. Window accesses that are no named command (R109 to R118, R191 to R201): the meanings of UNKNOWN_CMD, MDATA_READ,
MDATA_WRITE, CONFIG_WRITE, ATTN_CFG_WRITE and WINDOW_WRITE. -/

namespace Sys2Proof.Machine

/-! ### MDATA and the arbiter (R110, R112, R114) -/

/-- The channel whose access comes before a window claim's: the offered one, where its access runs as the claim arrives, or
where the window was served last, so that the arbiter's decision goes to the waiting channel (R112, R114; assumption 6). -/
def channelAhead (running : Bool) (s : State) : Option Channel :=
  if running || s.xmem.lastServed == .window then offeredChannel s else none

/-- Record whether RDY was held back in this MDATA access (R114, assumption 14). -/
def State.setHeld (s : State) (held : Bool) : State := { s with port := { s.port with rdyHeld := held } }

/-- The state at the memory slot that serves the window: at most one channel access comes first, and RDY is held back
meanwhile (R112, R114). -/
def windowTurn (running : Bool) (s : State) : State :=
  match channelAhead running s with
  | some c => (channelAccess c s).setHeld true
  | none => s.setHeld false

/-- The window's access is served: MPTR advances by 1, wrapping, and the window is the claimant served last (R110, R112). -/
def servedWindow (s : State) : State :=
  { s with xmem := { s.xmem with mptr := s.xmem.mptr + 1, lastServed := .window } }

/-- Put a word on D[15:0] (R110, assumption 14). -/
def State.putData (s : State) (w : Word) : State := { s with port := { s.port with readData := w } }

/-- The word at MPTR. -/
def wordAtPointer (s : State) : Word := Memory.read s.xmem.mem s.xmem.mptr.toNat

/-- A read of MDATA (R110); during INIT it returns 0000h and reaches no word (R117). -/
def readMdata (running : Bool) (s : State) : State :=
  if s.inInit then (s.setHeld false).putData 0
  else
    let s1 := windowTurn running s
    servedWindow (s1.putData (wordAtPointer s1))

/-- A write of MDATA (R110); during INIT it stores nothing (R117). -/
def writeMdata (data : Word) (running : Bool) (s : State) : State :=
  if s.inInit then s.setHeld false
  else
    let s1 := windowTurn running s
    servedWindow (s1.setMem (Memory.write s1.xmem.mem s1.xmem.mptr.toNat data))

/-! ### CMD and the other locations -/

/-- What a command does once it is performed (Table 1 of spec/11); nothing for what is no command. -/
def performCommand (c : Instr) (s : State) : State :=
  match c with
  | .run => runEngine s
  | .stop => stopEngine s
  | .step => stepEngine s
  | .flush => flushRequests s
  | .busReset => busResetCommand s
  | .clearFault => clearFaultRecord s
  | .softReset => softReset s
  | .post => postRequest s
  | .pop => popCompletion s
  | .profApply => applyProfile s
  | .profLoad => loadProfile s
  | .srcApply => applySource s
  | .srcLoad => loadSource s
  | .take => takeSource s
  | .endService => endSource s
  | .arm => armChannel s
  | .chStop => stopChannel s
  | .chAck => ackChannel s
  | .unknownCmd _ | .mdataRead _ | .mdataWrite _ _ | .configWrite _ | .attnCfgWrite _ | .windowWrite _ _
  | .resetAssert _ | .resetDeassert | .clearSweepEnd | .satnAssertion | .satnDeassertion
  | .dispatchChoice | .responseWindowExpiry | .holdLimitReached | .cycleEnd | .busResetIntervalEnd | .dividerTakesEffect
  | .identifyIntervalLapse | .settlePeriodsBegin | .backoffExpiry _ | .ccbLoad _ | .channelCountStep _
  | .channelAddressStep _ | .channelDataStep _ | .channelRollback _ | .inDataWrite _ | .stationResponse _
  | .byteTransfer _ _ | .senseSample _ | .answerCheckSample _ _ _ _ => s

/-- A write of CMD: the word's command, or UNKNOWN_CMD (R194). -/
def writeCmd (w : Word) (s : State) : State :=
  match decodeCommand w with
  | some c => performCommand c s
  | none => s.setResult .unknownCmd

/-- During INIT a write of a location other than CMD is ignored (R117). -/
def unlessInit (write : State → State) (s : State) : State := if s.inInit then s else write s

/-- A window write of any location (R191): the action locations act as their own rows do (assumption 13). -/
def writeLocation (location : BitVec 5) (w : Word) (s : State) : State :=
  match location.toNat with
  | 0x02 => windowCommand (writeCmd w) s
  | 0x0D => writeMdata w false s
  | 0x1C => unlessInit (storeConfig w) s
  | 0x1D => unlessInit (storeInterval w) s
  | _ => unlessInit (storeLocation location w) s

/-- UNKNOWN_CMD: the result is UNKNOWN_CMD, or INIT (R194). -/
def execUnknownCmd (w : Word) (s : State) : Host.Outcome State Fault Refusal := .next (windowCommand (writeCmd w) s)

/-- MDATA_READ (R110). -/
def execMdataRead (running : Bool) (s : State) : Host.Outcome State Fault Refusal := .next (readMdata running s)

/-- MDATA_WRITE (R110). -/
def execMdataWrite (data : Word) (running : Bool) (s : State) : Host.Outcome State Fault Refusal :=
  .next (writeMdata data running s)

/-- CONFIG_WRITE (R201). -/
def execConfigWrite (w : Word) (s : State) : Host.Outcome State Fault Refusal := .next (unlessInit (storeConfig w) s)

/-- ATTN_CFG_WRITE (R153). -/
def execAttnCfgWrite (w : Word) (s : State) : Host.Outcome State Fault Refusal := .next (unlessInit (storeInterval w) s)

/-- WINDOW_WRITE (R191). -/
def execWindowWrite (location : BitVec 5) (w : Word) (s : State) : Host.Outcome State Fault Refusal :=
  .next (writeLocation location w s)

end Sys2Proof.Machine
end

