-- ==== Sys2Proof/Machine/Tick.lean ====
section
/-! DEFINITION. One STCLK period in which no event of the table happens: what a step does on an empty queue (assumption 3). A
counter moves by one period and stops at its last one: its end is an event of the table. -/

namespace Sys2Proof.Machine

/-- The period after this one in a cycle of kind `k` that captured `p`, with no event: no response yet, SWAIT# low in a DATA
period (R4 to R15). -/
def nextPhase (k : CycleKind) (p : Captured) (x : Phase) : Phase :=
  match x with
  | .select1 => if k.hasResponse then .select2 else .turnaround
  | .select2 => .response 1
  | .response i => if i < p.window.toNat then .response (i + 1) else x
  | .turnaround => if k.hasResponse then .dataHigh else .answer 1
  | .pulse lines i => if i ≤ p.spacing.toNat then .pulse lines (i + 1) else pulseFrom lines.tail
  | .sense i => if i < p.spacing.toNat then .sense (i + 1) else x
  | .answer i => if i < 4 then .answer (i + 1) else x
  | .dataHigh => x
  | .dataLow _ _ => x
  | .ending _ => x

/-- The phase is the DATA phase (R8, R9). -/
def Phase.isData : Phase → Bool
  | .dataHigh => true
  | .dataLow _ _ => true
  | .select1 => false
  | .select2 => false
  | .response _ => false
  | .turnaround => false
  | .pulse _ _ => false
  | .sense _ => false
  | .answer _ => false
  | .ending _ => false

/-- The captured values of a cycle that captures none (an IDENTIFY, R4): no phase of it reads them. -/
def noCapture : Captured := { window := 0, hold := 0, spacing := 0, parity := false }

/-- One period of a cycle: the phase goes on, and a DATA period with SWAIT# low counts (R10), short of the limit, whose
period is HOLD_LIMIT_REACHED. -/
def cyclePeriod (w : BusWork) (c : Cycle) : Cycle :=
  { c with
    phase := nextPhase w.kind (c.captured.getD noCapture) c.phase
    hold := if c.phase.isData ∧ c.hold + 1 < holdProduct c then c.hold + 1 else c.hold }

/-- One period of the bus (R18, R20): the interval stops at its 32nd and 64th periods, whose ends are rows; while RESET# is
asserted it does not run. -/
def busPeriod (part : PartPhase) (b : Bus) : Bus :=
  match b with
  | .idle => .idle
  | .cycle w => .cycle { w with cycle := w.cycle.map (cyclePeriod w) }
  | .resetting k floating =>
    match part with
    | .resetAsserted => .resetting k floating
    | .init _ => if k = Config.resetAssertPeriods ∨ Config.resetPeriods ≤ k then .resetting k floating else .resetting (k + 1) false
    | .running => if k = Config.resetAssertPeriods ∨ Config.resetPeriods ≤ k then .resetting k floating else .resetting (k + 1) false

/-- One period of a backoff timer, which runs in BUS_IDLE and BUS_CYCLE (R55). -/
def backoffPeriod (resetting : Bool) (t : Option Nat) : Option Nat := if resetting then t else t.map fun n => if 1 < n then n - 1 else n

/-- One period of the identify interval timer, which runs in BUS_IDLE and BUS_CYCLE (R152). -/
def intervalPeriod (resetting : Bool) (t : IntervalTimer) : IntervalTimer :=
  match t with
  | .running n => if !resetting && decide (1 < n) then .running (n - 1) else t
  | .stopped => t
  | .lapsed => t

/-- The words the clear sweep writes in one period, short of FFFh (R116): one each memory slot of two CLKIN periods, so the
divider in effect + 1 (R2, assumption 27). -/
def sweepPeriod (s : State) : State :=
  match s.part with
  | .init k =>
    let n := min (s.engine.divider.toNat + 1) (4095 - k)
    { s.setMem (Memory.clear s.xmem.mem k n) with part := .init (k + n) }
  | .resetAsserted => s
  | .running => s

/-- A channel that rolls back from a DEFER counts the periods since the end of the cycle (R55, assumption 17). -/
def channelPeriod (r : ChannelRec) : ChannelRec :=
  match r.state with
  | .moving (.rollCount (.defer n)) => { r with state := .moving (.rollCount (.defer (n + 1))) }
  | .moving (.rollAddr (.defer n)) => { r with state := .moving (.rollAddr (.defer (n + 1))) }
  | _ => r

/-- One STCLK period. -/
def tick (s : State) : State :=
  let s1 := sweepPeriod s
  { s1 with
    engine := { s1.engine with bus := busPeriod s.part s.engine.bus }
    rq := { s1.rq with backoff := Vector.ofFn fun (n : Station) => backoffPeriod s.resetting s.rq.backoff[n] }
    attn := { s1.attn with timer := intervalPeriod s.resetting s.attn.timer }
    channels := Vector.ofFn fun (c : Channel) => channelPeriod s.channels[c] }

end Sys2Proof.Machine
end

