-- ==== Sys2Proof/Machine/Dispatch.lean ====
section
/-! DEFINITION. The meaning of each command, one arm per row of spec/opcode_table.json. -/

namespace Sys2Proof.Machine

def exec (i : Instr) (s : State) : Host.Outcome State Fault Refusal :=
  match i with
  | .run => Sys2Proof.Machine.execRun s
  | .stop => Sys2Proof.Machine.execStop s
  | .step => Sys2Proof.Machine.execStep s
  | .flush => Sys2Proof.Machine.execFlush s
  | .busReset => Sys2Proof.Machine.execBusReset s
  | .clearFault => Sys2Proof.Machine.execClearFault s
  | .softReset => Sys2Proof.Machine.execSoftReset s
  | .post => Sys2Proof.Machine.execPost s
  | .pop => Sys2Proof.Machine.execPop s
  | .profApply => Sys2Proof.Machine.execProfApply s
  | .profLoad => Sys2Proof.Machine.execProfLoad s
  | .srcApply => Sys2Proof.Machine.execSrcApply s
  | .srcLoad => Sys2Proof.Machine.execSrcLoad s
  | .take => Sys2Proof.Machine.execTake s
  | .endService => Sys2Proof.Machine.execEndService s
  | .arm => Sys2Proof.Machine.execArm s
  | .chStop => Sys2Proof.Machine.execChStop s
  | .chAck => Sys2Proof.Machine.execChAck s
  | .unknownCmd word => Sys2Proof.Machine.execUnknownCmd word s
  | .mdataRead running => Sys2Proof.Machine.execMdataRead running s
  | .mdataWrite data running => Sys2Proof.Machine.execMdataWrite data running s
  | .configWrite data => Sys2Proof.Machine.execConfigWrite data s
  | .attnCfgWrite data => Sys2Proof.Machine.execAttnCfgWrite data s
  | .windowWrite location data => Sys2Proof.Machine.execWindowWrite location data s
  | .resetAssert held => Sys2Proof.Machine.execResetAssert held s
  | .resetDeassert => Sys2Proof.Machine.execResetDeassert s
  | .clearSweepEnd => Sys2Proof.Machine.execClearSweepEnd s
  | .satnAssertion => Sys2Proof.Machine.execSatnAssertion s
  | .satnDeassertion => Sys2Proof.Machine.execSatnDeassertion s
  | .dispatchChoice => Sys2Proof.Machine.execDispatchChoice s
  | .responseWindowExpiry => Sys2Proof.Machine.execResponseWindowExpiry s
  | .holdLimitReached => Sys2Proof.Machine.execHoldLimitReached s
  | .cycleEnd => Sys2Proof.Machine.execCycleEnd s
  | .backoffExpiry station => Sys2Proof.Machine.execBackoffExpiry station s
  | .busResetIntervalEnd => Sys2Proof.Machine.execBusResetIntervalEnd s
  | .dividerTakesEffect => Sys2Proof.Machine.execDividerTakesEffect s
  | .identifyIntervalLapse => Sys2Proof.Machine.execIdentifyIntervalLapse s
  | .ccbLoad service => Sys2Proof.Machine.execCcbLoad service s
  | .channelCountStep service => Sys2Proof.Machine.execChannelCountStep service s
  | .channelAddressStep service => Sys2Proof.Machine.execChannelAddressStep service s
  | .channelDataStep service => Sys2Proof.Machine.execChannelDataStep service s
  | .channelRollback service => Sys2Proof.Machine.execChannelRollback service s
  | .stationResponse code => Sys2Proof.Machine.execStationResponse code s
  | .byteTransfer sad spar => Sys2Proof.Machine.execByteTransfer sad spar s
  | .senseSample level => Sys2Proof.Machine.execSenseSample level s
  | .answerCheckSample high highSpar low lowSpar => Sys2Proof.Machine.execAnswerCheckSample high highSpar low lowSpar s
  | .settlePeriodsBegin => Sys2Proof.Machine.execSettlePeriodsBegin s
  | .inDataWrite service => Sys2Proof.Machine.execInDataWrite service s

end Sys2Proof.Machine
end

