-- ==== Sys2Proof/Safety.lean ====
section
/-! DEFINITION. The laws of the part: what the spec says holds in every state, block by block. Each is a property of one state,
kept by every step (statements of Certificates/Slice0) and true of the reset state. -/

namespace Sys2Proof.Machine

/-! ### Words the statements are written in -/

/-- The run state after the end of bus work; `trigger`: its failure is a halt trigger under halt-on-error (R93, R98). -/
def runAfterWork (trigger : Bool) (r : RunState) : RunState :=
  match r with
  | .running => if trigger then .halted else .running
  | .stopping => .halted
  | .stepping => .halted
  | .halted => .halted

/-- The run state after a halt trigger, where there is one, with or without bus work in flight (Table of R98). -/
def runAfterTrigger (trigger busy : Bool) (r : RunState) : RunState :=
  match r with
  | .running => if trigger then (if busy then .stopping else .halted) else .running
  | .stepping => if trigger then (if busy then .stopping else .halted) else .stepping
  | .stopping => .stopping
  | .halted => .halted

/-- The state with another run state; entering HALTED sets the pending flag of source 19 while it is routed to a line (R99, R174). -/
def State.toRun (s : State) (r : RunState) : State :=
  { s with
    engine := { s.engine with run := r }
    alerts := { s.alerts with
      haltedPending := s.alerts.haltedPending ||
        (r == .halted && s.engine.run != .halted && (s.lineOf Source.halted).isSome) } }

/-- The state with another result of the last command. -/
def State.answers (s : State) (r : Result) : State := { s with port := { s.port with result := r } }

/-- The fault record after a fault is handed to it (R185). -/
def faultAfter (f : Option FaultEntry) (k : FaultKind) (n : Option Station) : Option FaultEntry :=
  match f with
  | none => some { kind := k, station := n, more := false }
  | some e => some { e with more := true }

/-- A channel record that has entered ENDED or FAULTED (R143). -/
def ChannelRec.ends (r : ChannelRec) (st : ChState) (reason : Reason) : ChannelRec :=
  { r with state := st, reason := reason, endFlag := true, stopRequested := false, keptCount := none, keptAddress := none }

/-- The channel is LOADING or ACTIVE, which a bus reset start faults (R146). -/
def ChState.isLoadingOrActive : ChState → Bool
  | .loading _ => true
  | .active => true
  | .idle => false
  | .moving _ => false
  | .ended => false
  | .faulted => false

/-- A channel record at the start of a bus reset that does not end its own word (R146). -/
def ChannelRec.atReset (r : ChannelRec) : ChannelRec :=
  if r.state.isLoadingOrActive then r.ends .faulted .busReset else r

/-- A request record at the start of a bus reset: out of BACKOFF (R60). -/
def Request.atReset (r : Request) : Request := if r.state = .backoff then { r with state := .waiting } else r

/-- The Attention Controller at the start of a bus reset (R164). -/
def Attention.atReset (a : Attention) : Attention :=
  { a with
    stations := Vector.replicate 15 { answer := false, previous := false, pending := false, fresh := false }
    mark := false
    timer := .stopped
    emptyAnswers := 0
    suspended := false }

/-- The fields POST takes from the staging words, by kind (Table 3 of spec/03); a submission that asks for no body is refused
with BAD_FIELD (R40). -/
abbrev Submission.asksFor (x : Submission) (b : RequestBody) : Prop :=
  (x.kind = 1#3 ∧ ∃ n : Station, n.number = x.station.toNat ∧ b = .write n x.operand x.data x.silent) ∨
  (x.kind = 2#3 ∧ ∃ n : Station, n.number = x.station.toNat ∧ b = .read n x.operand) ∨
  (x.kind = 3#3 ∧ x.operand.extractLsb' 0 3 ≠ 0#3 ∧
    ∃ n : Station, n.number = x.station.toNat ∧ b = .control n (x.operand.extractLsb' 0 3)) ∨
  (x.kind = 4#3 ∧ b = .fence)

/-- The ranges PROF_APPLY checks (R25). -/
abbrev Profile.inRanges (p : Profile) : Prop :=
  1 ≤ p.registerCount.toNat ∧ p.registerCount.toNat ≤ 256 ∧ p.responseWindow ≠ 0 ∧ p.holdLimit ≠ 0 ∧ p.retryInterval ≠ 0 ∧
    p.pulseSpacing ≠ 0 ∧ p.deferLimit ≠ 0

/-- A WAITING record is eligible behind the older records (R44, R45). -/
abbrev mayGo (s : State) (older : List Request) (r : Request) : Prop :=
  r.state = .waiting ∧ s.cq.records.length + s.cq.reserved < 16 ∧
    match r.body.station with
    | some n => (∀ x ∈ older, x.body.station ≠ some n ∧ x.body ≠ .fence) ∧ s.rq.backoff[n] = none
    | none => older = []

/-- An ACTIVE channel is eligible for a word (R128). -/
abbrev mayMove (s : State) (c : Channel) : Prop :=
  (s.channels[c]).state = .active ∧
    ∃ k, (s.channels[c]).control = some k ∧ s.rq.backoff[k.station] = none ∧
      (k.paced = true → (s.attn.stations[k.station]).fresh = true)

/-- The conditions of a choice but for work being offered (R86). -/
abbrev mayDispatch (s : State) : Prop :=
  (s.engine.run = .running ∨ s.engine.run = .stepping) ∧ s.engine.bus = .idle ∧ s.inInit = false

/-- An IDENTIFY is due (R151). -/
abbrev dueIdentify (s : State) : Prop :=
  s.attn.satn = true ∧ s.attn.suspended = false ∧ (s.attn.mark = false ∨ s.attn.timer = .lapsed)

/-- The request leaves its queue with a status: a silent success frees its tag, any other retirement places a completion at
the tail (R50, R72, R73). -/
def State.retired (s : State) (r : Request) (st : Status) (data : Word) : State :=
  if st = .ok ∧ r.body.isSilent = true then
    { s with
      rq := { s.rq with records := s.rq.records.filter fun x => x.tag ≠ r.tag }
      cq := { s.cq with reserved := s.cq.reserved - 1, tags := s.cq.tags.set r.tag.toNat false } }
  else
    { s with
      rq := { s.rq with records := s.rq.records.filter fun x => x.tag ≠ r.tag }
      cq := { s.cq with
        reserved := s.cq.reserved - 1
        records := s.cq.records ++
          [{ tag := r.tag, kind := r.body.kind, station := r.body.station, status := st, defers := r.defers, data := data }] } }

/-- The status and data a request retires with after its cycle; none after a DEFER and for an IDENTIFY's outcomes (R51, R53,
R54). -/
def CycleOutcome.retires : CycleOutcome → Option (Status × Word)
  | .ack data => some (.ok, data.getD 0)
  | .noResponse => some (.noResponse, 0)
  | .protocol => some (.protocol, 0)
  | .parity data => some (.parity, data)
  | .busHang => some (.busHang, 0)
  | .cut => some (.busReset, 0)
  | .defer => none
  | .answer _ => none
  | .identifyParity => none

/-- The fault record after an outcome is delivered (R101, R102). -/
def CycleOutcome.faultRecord (o : CycleOutcome) (n : Option Station) (f : Option FaultEntry) : Option FaultEntry :=
  match o with
  | .protocol => faultAfter f .protocol n
  | .busHang => faultAfter f .busHang n
  | .ack _ => f
  | .noResponse => f
  | .parity _ => f
  | .cut => f
  | .defer => f
  | .answer _ => f
  | .identifyParity => f

/-- The reason of a channel word whose cycle fails; none for an ACK, a DEFER and an IDENTIFY's outcomes (R136, R145). -/
def CycleOutcome.reason : CycleOutcome → Option Reason
  | .noResponse => some .noResponse
  | .protocol => some .protocol
  | .parity _ => some .parity
  | .busHang => some .busHang
  | .cut => some .busReset
  | .ack _ => none
  | .defer => none
  | .answer _ => none
  | .identifyParity => none

/-- A cycle in flight that has not reached its END period: a bus reset cuts it (R19). -/
def Phase.isEnding : Phase → Bool
  | .ending _ => true
  | .select1 => false
  | .select2 => false
  | .response _ => false
  | .turnaround => false
  | .dataHigh => false
  | .dataLow _ _ => false
  | .pulse _ _ => false
  | .sense _ => false
  | .answer _ => false

/-- The cycle of the bus work in flight, in another phase. -/
def State.atPhase (s : State) (w : BusWork) (c : Cycle) (x : Phase) : State :=
  { s with engine := { s.engine with bus := .cycle { w with cycle := some { c with phase := x } } } }

/-- A channel record after the ACK of a word whose control is `k`; `lost`: a bus reset has ended the word's bus work before
(R134, R138, R141, R145). -/
def ChannelRec.afterAck (r : ChannelRec) (k : Control) (lost : Bool) : ChannelRec :=
  let r0 := { r with defers := 0 }
  if r.keptCount.getD 0 + 1 = 0 then
    let r1 := { r0 with endFlag := r.endFlag || k.notify }
    let link := r.link.getD 0
    if link ≠ 0 ∧ r.stopRequested = false then
      if 0xFFC < link.toNat then r1.ends .faulted .address
      else
        let r2 : ChannelRec :=
          { r1 with ccb := link.extractLsb' 0 12, state := .loading .control, keptCount := none, keptAddress := none }
        if lost then r2.ends .faulted .busReset else r2
    else r1.ends .ended .complete
  else if r.stopRequested then r0.ends .ended .stopped
  else if lost then r0.ends .faulted .busReset
  else { r0 with state := .active, keptCount := none, keptAddress := none }

/-- The fresh flag of a paced word's station is cleared by its ACK (R134). -/
def Attention.consumed (a : Attention) (k : Control) : Attention :=
  if k.paced then { a with stations := a.stations.set k.station { a.stations[k.station] with fresh := false } } else a

/-- The Block Channels offer this channel's access next: it waits for the memory, and no channel between the rotation pointer
and it does (R113). -/
abbrev turnOf (s : State) (c : Channel) : Prop :=
  wantsMemory (s.channels[c]).state = true ∧
    ∃ k : Fin 4, c = s.xmem.rotation + 1 + k ∧
      ∀ j : Fin 4, j < k → wantsMemory (s.channels[s.xmem.rotation + 1 + j]).state = false

/-- No other channel waits for the memory. -/
abbrev aloneAtMemory (s : State) (c : Channel) : Prop := ∀ d : Channel, d ≠ c → wantsMemory (s.channels[d]).state = false

/-- The memory has served the channel (R112, R113). -/
def State.served (s : State) (c : Channel) : State := { s with xmem := { s.xmem with lastServed := .channels, rotation := c } }

/-- The bus reset interval has begun, and every owner but that of the work on the bus has taken its effects (R60, R104, R146,
R164). -/
def State.busReset (s : State) (floating : Bool) : State :=
  { s with
    engine := { s.engine with bus := .resetting 1 floating }
    rq := { records := s.rq.records.map Request.atReset, backoff := Vector.replicate 15 none }
    channels := s.channels.map ChannelRec.atReset
    attn := s.attn.atReset }

/-- A halt trigger comes with the bus reset: halt-on-error is set and some channel is LOADING or ACTIVE (R98, R146). -/
def State.resetTriggers (s : State) : Bool :=
  s.cfg.haltOnError && (List.finRange 4).any fun c => (s.channels[c]).state.isLoadingOrActive

/-! ### Exchange memory and profiles -/

/-- The memory is in its canonical form (assumption 11). -/
abbrev MemoryCanonical (s : State) : Prop := Memory.wf s.xmem.mem

/-- Every profile holds values PROF_APPLY accepts (R23, R25). -/
abbrev ProfilesLegal (s : State) : Prop := ∀ n : Station, (s.profiles[n]).legal = true

/-! ### Cycles (Tables 3 and 6 of spec/01) -/

/-- The outcomes a cycle kind can have, with their data (Table 6 of spec/01). -/
def outcomeFits (k : CycleKind) (o : CycleOutcome) : Bool :=
  match k, o with
  | .write, .ack d => d == none
  | .read, .ack d => d.isSome
  | .control, .ack d => d == some 0 || d == some 1
  | .identify, .ack _ => false
  | k, .defer => k.hasResponse
  | k, .noResponse => k.hasResponse
  | k, .protocol => k.hasResponse
  | k, .parity _ => k == .read
  | k, .busHang => k == .write || k == .read
  | k, .answer _ => k == .identify
  | k, .identifyParity => k == .identify
  | _, .cut => true

/-- The phases of a cycle kind (Table 3 of spec/01). -/
def phaseFits (k : CycleKind) (x : Phase) : Bool :=
  match x with
  | .select1 => true
  | .select2 => k.hasResponse
  | .response _ => k.hasResponse
  | .turnaround => k.stationsDrive
  | .dataHigh => k == .write || k == .read
  | .dataLow _ _ => k == .write || k == .read
  | .pulse _ _ => k == .control
  | .sense _ => k == .control
  | .answer _ => k == .identify
  | .ending o => outcomeFits k o

/-- The cycle stands in a phase of its kind and holds captured values exactly where its kind captures them (R4). -/
def Cycle.fits (k : CycleKind) (c : Cycle) : Bool := phaseFits k c.phase && c.captured.isSome == k.hasResponse

/-- The bus work is of its owner's kind: an IDENTIFY, with no station, for the Attention Controller, else a cycle to a station;
only a channel word has no cycle (R85). -/
def BusWork.fits (w : BusWork) : Bool :=
  match w.owner with
  | .attention => w.kind == .identify && w.station == none && w.cycle.isSome
  | .queue _ => w.kind.hasResponse && w.station.isSome && w.cycle.isSome
  | .channel _ => (w.kind == .write || w.kind == .read) && w.station.isSome

/-- The bus work, where there is any, and its cycle fit their kinds (R4, R17, R85). -/
def cyclesFit (s : State) : Bool :=
  match s.engine.bus with
  | .cycle w => w.fits && (w.cycle.map (Cycle.fits w.kind)).getD true
  | .idle => true
  | .resetting _ _ => true

/-! ### Run control -/

/-- The run state, bus state and counters are legal: SHARE counter 0 to 8 (R88), STOPPING only with bus work in flight (R95),
an interval period 1 to 64 (R83), and HALTED with no bus work in INIT and while RESET# is asserted (R107). -/
def engineLegal (s : State) : Bool :=
  decide (s.engine.share ≤ 8) && (s.engine.run != .stopping || s.busy) &&
    (!s.inInit || (s.engine.run == .halted && !s.busy)) &&
    match s.engine.bus with
    | .resetting k _ => decide (1 ≤ k) && decide (k ≤ Config.resetPeriods)
    | .idle => true
    | .cycle _ => true

/-! ### Alerts and attention -/

/-- A source in service is routed to its line, and the sources in service on a line have different priorities (R175). -/
abbrev InServiceLaw (s : State) : Prop :=
  (∀ (l : Line) (x : Source), inServiceOn s l x = true → s.lineOf x = some l) ∧
  (∀ (l : Line) (x y : Source), inServiceOn s l x = true → inServiceOn s l y = true → sourcePriority s x = sourcePriority s y → x = y)

/-- The routing is to a channel. -/
def Routing.isChannel : Routing → Bool
  | .channel _ => true
  | .masked => false
  | .line _ => false

/-- A station is pending only on a line, fresh only on a channel, and holds no flag while it is disabled (R155); source 19 is
pending only on a line (R174); sources 16 to 19 are routed to no channel (R168). -/
abbrev FlagsFollowRouting (s : State) : Prop :=
  (∀ n : Station,
    ((s.attn.stations[n]).pending = true → (s.profiles[n]).enabled = true ∧ (s.lineOf n.source).isSome = true) ∧
    ((s.attn.stations[n]).fresh = true → (s.profiles[n]).enabled = true ∧ (s.alerts.config[n.source]).routing.isChannel = true) ∧
    ((s.attn.stations[n]).previous = true → (s.profiles[n]).enabled = true)) ∧
  (s.alerts.haltedPending = true → (s.lineOf Source.halted).isSome = true) ∧
  (∀ x : Source, x.station = none → (s.alerts.config[x]).routing.isChannel = false)

/-- The periods a running identify interval timer has left: 1 to 2040 (R152). -/
def IntervalTimer.legal : IntervalTimer → Bool
  | .running n => decide (1 ≤ n) && decide (n ≤ 2040)
  | .stopped => true
  | .lapsed => true

/-- The timers and counters are in their ranges (R55, R148, R152, R153, R161). -/
abbrev TimersLegal (s : State) : Prop :=
  s.attn.interval ≠ 0 ∧ s.attn.emptyAnswers ≤ 3 ∧ s.attn.timer.legal = true ∧
  ∀ n : Station, ∀ k ∈ s.rq.backoff[n], 1 ≤ k ∧ k ≤ 2040

/-! ### Queues -/

/-- The tags held by the records of the two queues. -/
def heldTags (s : State) : List Tag := s.rq.records.map Request.tag ++ s.cq.records.map Completion.tag

/-- The Request Queue's bus work has its record, ACTIVE with its reservation (R84, R85). -/
def ownerActive (s : State) : Bool :=
  match s.engine.bus with
  | .cycle w =>
    match w.owner with
    | .queue t => s.rq.records.any fun r => r.tag == t && r.state == .active && r.reserved && r.body.station.isSome
    | .channel _ => true
    | .attention => true
  | .idle => true
  | .resetting _ _ => true

/-- The queues' accounting: at most 16 requests (R38); completions and reservations at most 16, one reservation for each marked
record (R47, R70); every tag held by one record, and in the tag-in-use set exactly while held (R42, R74). -/
abbrev QueueLaw (s : State) : Prop :=
  s.rq.records.length ≤ 16 ∧
  s.cq.records.length + s.cq.reserved ≤ 16 ∧
  s.cq.reserved = (s.rq.records.filter Request.reserved).length ∧
  (heldTags s).Nodup ∧
  (∀ t : Tag, s.cq.tags[t.toNat] = true ↔ t ∈ heldTags s) ∧
  ownerActive s = true

/-- The bus work in flight is the request's of this tag. -/
def onBus (s : State) (t : Tag) : Bool :=
  match s.engine.bus with
  | .cycle w => w.owner == .queue t
  | .idle => false
  | .resetting _ _ => false

/-- The request record's state agrees with the rest of the part: ACTIVE on the bus, BACKOFF while its station's timer runs,
both with the reservation held, a DEFER count that leaves room for one more (R29, R43, R47, R56). -/
def Request.agrees (s : State) (r : Request) : Bool :=
  decide (r.defers ≤ 14) &&
    match r.state with
    | .waiting => true
    | .active => r.reserved && onBus s r.tag
    | .backoff =>
      r.reserved &&
        match r.body.station with
        | some n => (s.rq.backoff[n]).isSome
        | none => false

/-- Behind an older record, a marked one names another station, and no marked record stands behind a FENCE or is one (R43 to
R45, R47). -/
abbrev StationOrder (l : List Request) : Prop :=
  l.Pairwise (fun x y => y.reserved = true → x.body.station ≠ y.body.station ∧ x.body ≠ .fence) ∧
  ∀ r ∈ l, r.reserved = true → r.body.station.isSome = true

/-- The states of the request records (R43). -/
abbrev RequestStates (s : State) : Prop :=
  (∀ r ∈ s.rq.records, r.agrees s = true) ∧ StationOrder s.rq.records

/-! ### Channels -/

/-- The end a rollback leads to is a DEFER or a fault reason: NONE, COMPLETE and STOPPED are none (R135 to R137, R145, Table 4
of spec/07). -/
def WordEnd.legal : WordEnd → Bool
  | .fault x => x != .none && x != .complete && x != .stopped
  | .defer _ => true

/-- The values kept at a step of the word (R130, R131, R137), from the address step on a data address in the memory (R122,
R131), and in the rollback the end it leads to. -/
def ChannelRec.keeps (r : ChannelRec) (w : WordStep) : Bool :=
  let inMemory := r.keptCount.isSome && r.keptAddress.isSome && (r.control.map fun k => decide (dataAddress r k ≤ 0xFFF)).getD false
  match w with
  | .countRead => r.keptCount.isNone && r.keptAddress.isNone
  | .countWrite => r.keptCount.isSome && r.keptAddress.isNone
  | .zeroAddrRead => r.keptCount.isSome && r.keptAddress.isNone
  | .addrRead => r.keptCount.isSome && r.keptAddress.isNone
  | .addrWrite => inMemory
  | .outRead => inMemory
  | .ask _ => inMemory
  | .inCycle => inMemory
  | .inWrite _ => inMemory
  | .rollCount e => r.keptCount.isSome && e.legal
  | .rollAddr e => r.keptCount.isSome && r.keptAddress.isSome && e.legal

/-- The channel's record agrees with its state (Table 3 of spec/07, R123, R143): a CCB address of at most FFCh, working
control while ACTIVE or MOVING, kept values only while MOVING and as its step has them, a stop request only while LOADING or MOVING, the reason of its
state, and a DEFER count that leaves room for one more while it works. -/
def ChannelRec.legal (r : ChannelRec) : Bool :=
  decide (r.ccb.toNat ≤ 0xFFC) && decide (r.defers ≤ 15) &&
    match r.state with
    | .idle => !r.stopRequested && r.keptCount.isNone && r.keptAddress.isNone && r.reason == .none
    | .loading _ => r.keptCount.isNone && r.keptAddress.isNone && r.reason == .none && decide (r.defers ≤ 14)
    | .active =>
      !r.stopRequested && r.keptCount.isNone && r.keptAddress.isNone && r.reason == .none && r.control.isSome &&
        decide (r.defers ≤ 14)
    | .moving w => r.reason == .none && r.control.isSome && decide (r.defers ≤ 14) && r.keeps w
    | .ended =>
      !r.stopRequested && r.keptCount.isNone && r.keptAddress.isNone && (r.reason == .complete || r.reason == .stopped)
    | .faulted =>
      !r.stopRequested && r.keptCount.isNone && r.keptAddress.isNone && r.reason != .none && r.reason != .complete &&
        r.reason != .stopped

/-- The channel is MOVING. -/
def ChState.isMoving : ChState → Bool
  | .moving _ => true
  | .idle => false
  | .loading _ => false
  | .active => false
  | .ended => false
  | .faulted => false

/-- The bus work of a channel word is a WRITE for OUT, a READ for IN, to the working station and offset (R90, R133). -/
def BusWork.ofControl (w : BusWork) (k : Control) : Bool :=
  w.kind == (if k.out then .write else .read) && w.station == some k.station && w.operand == k.offset

/-- A channel word's bus work has its channel MOVING, in its cycle exactly while the record holds one, and is of the channel's
working control (R84, R85, R90). -/
def ownerMoving (s : State) : Bool :=
  match s.engine.bus with
  | .cycle w =>
    match w.owner with
    | .channel c => (s.channels[c]).state.isMoving && (w.cycle.isSome == ((s.channels[c]).state == .moving .inCycle)) &&
        ((s.channels[c]).control.map w.ofControl).getD false
    | .queue _ => true
    | .attention => true
  | .idle => true
  | .resetting _ _ => true

/-- The channel records and the channel's bus work agree (R84, R123). -/
abbrev ChannelsLegal (s : State) : Prop := (∀ c : Channel, (s.channels[c]).legal = true) ∧ ownerMoving s = true

end Sys2Proof.Machine
end

