-- ==== Sys2Proof/WellFormed.lean ====
section
/-! DEFINITION. The operands a row can carry. A command that fails a check is another row's event (assumption 13). -/

namespace Sys2Proof

/-- The locations that have a row of their own: CMD 02h, MDATA 0Dh, CONFIG 1Ch, ATTN_CFG 1Dh (Table 4 of spec/11). -/
def isActionLocation (location : BitVec 5) : Bool :=
  location == 0x02#5 || location == 0x0D#5 || location == 0x1C#5 || location == 0x1D#5

/-- The operands belong to the row: UNKNOWN_CMD carries a word that is no code (R194), WINDOW_WRITE a location without a
row of its own (R191), RESET_ASSERT at least one CLKIN period (R203), STATION_RESPONSE a sample that is not 00b (R6). -/
def Instr.wf : Instr → Bool
  | .unknownCmd w => decodeCommand w == none
  | .windowWrite location _ => !isActionLocation location
  | .resetAssert held => decide (1 ≤ held)
  | .stationResponse code => code != 0#2
  | .run | .stop | .step | .flush | .busReset | .clearFault | .softReset | .post | .pop
  | .profApply | .profLoad | .srcApply | .srcLoad | .take | .endService | .arm | .chStop | .chAck
  | .mdataRead _ | .mdataWrite _ _ | .configWrite _ | .attnCfgWrite _
  | .resetDeassert | .clearSweepEnd | .satnAssertion | .satnDeassertion | .dispatchChoice | .responseWindowExpiry
  | .holdLimitReached | .cycleEnd | .busResetIntervalEnd | .dividerTakesEffect | .identifyIntervalLapse | .settlePeriodsBegin
  | .backoffExpiry _ | .ccbLoad _ | .channelCountStep _ | .channelAddressStep _ | .channelDataStep _
  | .channelRollback _ | .inDataWrite _ | .byteTransfer _ _ | .senseSample _ | .answerCheckSample _ _ _ _ => true

end Sys2Proof
end

