-- ==== Sys2Proof/Certificates/Slice0/Obligations.lean ====
section
/-! DEFINITION. The statements for the provers, block by block. -/

open Sys2Proof Sys2Proof.Machine

/-! ### Steps -/

/-- For every command and state: a step takes the command at the front of the queue and is exec of it on the state with the
queue's rest. -/
def Obligations.StepRunsFrontCommand : Prop :=
  ∀ (c : Instr) (rest : List Instr) (s : State), s.pending = c :: rest → step s = exec c { s with pending := rest }

/-- Every command completes in every state and leaves the queue of commands alone (assumption 22: the model's choice). -/
def Obligations.EveryCommandCompletes : Prop :=
  ∀ (c : Instr) (s : State), ∃ t, exec c s = .next t ∧ t.pending = s.pending

/-- On an empty queue one STCLK period passes (assumption 3: the model's choice). Outside an interval the running timers count down
to their last period; an interval goes on by one period, up to its 32nd and its 64th, and not while RESET# is asserted; the
clear sweep writes div + 1 words, short of FFFh (assumption 27); a channel that rolls back from a DEFER counts the period
(assumption 17: both the model's choice). A cycle in flight is PeriodOfCycle's. Nothing else changes. -/
def Obligations.EmptyQueuePeriod : Prop :=
  ∀ s : State, s.pending = [] →
    ∃ t, step s = .next t ∧
      t = { s with
        part := t.part
        engine := { s.engine with bus := t.engine.bus }
        rq := { s.rq with backoff := t.rq.backoff }
        xmem := { s.xmem with mem := t.xmem.mem }
        channels := t.channels
        attn := { s.attn with timer := t.attn.timer } } ∧
      ((∀ k f, s.engine.bus ≠ .resetting k f) →
        (∀ n : Station, t.rq.backoff[n] = (s.rq.backoff[n]).map fun k => if 1 < k then k - 1 else k) ∧
        t.attn.timer = (match s.attn.timer with
          | .running k => .running (if 1 < k then k - 1 else k)
          | .stopped => .stopped
          | .lapsed => .lapsed)) ∧
      (s.engine.bus = .idle ∨ (∃ w, s.engine.bus = .cycle w ∧ w.cycle = none) → t.engine.bus = s.engine.bus) ∧
      (∀ k f, s.engine.bus = .resetting k f →
        t.rq = s.rq ∧ t.attn = s.attn ∧
        (s.part ≠ .resetAsserted → k ≠ 32 → k < 64 → t.engine.bus = .resetting (k + 1) false) ∧
        (s.part = .resetAsserted ∨ k = 32 ∨ 64 ≤ k → t.engine.bus = s.engine.bus)) ∧
      (∀ c : Channel,
        (∀ n, (s.channels[c]).state = .moving (.rollCount (.defer n)) →
          t.channels[c] = { s.channels[c] with state := .moving (.rollCount (.defer (n + 1))) }) ∧
        (∀ n, (s.channels[c]).state = .moving (.rollAddr (.defer n)) →
          t.channels[c] = { s.channels[c] with state := .moving (.rollAddr (.defer (n + 1))) }) ∧
        ((∀ n, (s.channels[c]).state ≠ .moving (.rollCount (.defer n))) →
          (∀ n, (s.channels[c]).state ≠ .moving (.rollAddr (.defer n))) → t.channels[c] = s.channels[c])) ∧
      ((∀ k, s.part ≠ .init k) → t.part = s.part ∧ t.xmem = s.xmem) ∧
      (∀ k, s.part = .init k → k ≤ 4095 → Memory.wf s.xmem.mem →
        t.part = .init (min (k + (s.engine.divider.toNat + 1)) 4095) ∧ Memory.wf t.xmem.mem ∧
        ∀ a, a < 4096 → Memory.read t.xmem.mem a =
          if k ≤ a ∧ a < min (k + (s.engine.divider.toNat + 1)) 4095 then 0 else Memory.read s.xmem.mem a)

/-- On an empty queue a cycle goes on by one period (assumption 3: the model's choice): each phase counts to its last period, a
DATA period counts as stretched short of the hold limit. The output lines, computed from the state (assumption 21): idle levels
on an idle bus and between the steps of a channel word; SRST# in periods 1 to 32 of an interval and while RESET# is asserted;
in a cycle SSEL# up to END, the select bytes and the data with odd parity, SAD and SPAR released to the stations, each pulse
line in the last period of its pulse only. -/
def Obligations.PeriodOfCycle : Prop :=
  (∀ (s : State) (w : BusWork) (c : Cycle), s.pending = [] → s.engine.bus = .cycle w → w.cycle = some c →
     ∃ t d, step s = .next t ∧ t.engine = { s.engine with bus := .cycle { w with cycle := some d } } ∧ d.captured = c.captured ∧
       t.cq = s.cq ∧ t.port = s.port ∧ t.alerts = s.alerts ∧ t.fault = s.fault ∧ t.rq.records = s.rq.records ∧
       (c.phase = .select1 → d.phase = if w.kind = .identify then .turnaround else .select2) ∧
       (c.phase = .select2 → d.phase = .response 1) ∧
       (c.phase = .turnaround → d.phase = if w.kind = .identify then .answer 1 else .dataHigh) ∧
       (∀ k, c.phase = .answer k → d.phase = .answer (if k < 4 then k + 1 else k)) ∧
       (∀ o, c.phase = .ending o → d = c) ∧
       ∀ p, c.captured = some p →
         (∀ k, c.phase = .response k → d.phase = .response (if k < p.window.toNat then k + 1 else k)) ∧
         (∀ k, c.phase = .sense k → d.phase = .sense (if k < p.spacing.toNat then k + 1 else k)) ∧
         (∀ l rest k, c.phase = .pulse (l :: rest) k → d.phase =
           if k ≤ p.spacing.toNat then .pulse (l :: rest) (k + 1) else if rest = [] then .sense 1 else .pulse rest 1) ∧
         (c.phase = .dataHigh ∨ (∃ high e, c.phase = .dataLow high e) →
           d.phase = c.phase ∧ d.hold = if c.hold + 1 < 16 * p.hold.toNat then c.hold + 1 else c.hold) ∧
         (c.phase ≠ .dataHigh → (∀ high e, c.phase ≠ .dataLow high e) → d.hold = c.hold)) ∧
  (∀ s : State,
    (s.engine.bus = .idle ∨ (∃ w, s.engine.bus = .cycle w ∧ w.cycle = none) →
      pins s =
        { ssel := false, sdir := false, sad := some 0x00#8, spar := some true, sk1 := false, sk2 := false, sk4 := false
          srst := false }) ∧
    (∀ k f, s.engine.bus = .resetting k f →
      ((pins s).srst = true ↔ k ≤ 32 ∨ s.part = .resetAsserted) ∧
      (k = 1 ∧ f = true → pins s =
        { ssel := false, sdir := false, sad := none, spar := none, sk1 := false, sk2 := false, sk4 := false
          srst := (pins s).srst }) ∧
      (k ≠ 1 ∨ f = false → pins s =
        { ssel := false, sdir := false, sad := some 0x00#8, spar := some true, sk1 := false, sk2 := false, sk4 := false
          srst := (pins s).srst })) ∧
    (∀ (w : BusWork) (c : Cycle), s.engine.bus = .cycle w → w.cycle = some c →
      let first : Byte :=
        BitVec.ofNat 4 ((w.station.map Station.number).getD 0) ++
          (match w.kind with | .write => 1#4 | .read => 2#4 | .control => 3#4 | .identify => 8#4)
      let drives (b : Byte) : Prop :=
        (pins s).sdir = false ∧ (pins s).sad = some b ∧
          ∃ p, (pins s).spar = some p ∧ (((List.range 8).filter fun i => b.getLsbD i).length + p.toNat) % 2 = 1
      let fires (l : PulseLine) : Prop :=
        ∃ p rest, c.captured = some p ∧ c.phase = .pulse (l :: rest) (p.spacing.toNat + 1)
      (pins s).srst = false ∧
      ((pins s).ssel = true ↔ c.phase.isEnding = false) ∧
      (c.phase = .select1 → drives first) ∧
      (c.phase = .select2 ∨ (∃ k, c.phase = .response k) ∨ (∃ l k, c.phase = .pulse l k) ∨ (∃ k, c.phase = .sense k) →
        drives w.operand) ∧
      (w.kind = .write → c.phase = .dataHigh → drives (w.data.extractLsb' 8 8)) ∧
      (w.kind = .write → ∀ high e, c.phase = .dataLow high e → drives (w.data.extractLsb' 0 8)) ∧
      (c.phase = .turnaround ∨ (∃ k, c.phase = .answer k) ∨
          (w.kind = .read ∧ (c.phase = .dataHigh ∨ ∃ high e, c.phase = .dataLow high e)) →
        (pins s).sdir = true ∧ (pins s).sad = none ∧ (pins s).spar = none) ∧
      (∀ o, c.phase = .ending o →
        (w.kind = .identify ∨ (w.kind = .read ∧ ((∃ d, o = .ack d) ∨ (∃ d, o = .parity d) ∨ o = .busHang)) →
          (pins s).sdir = false ∧ (pins s).sad = none ∧ (pins s).spar = none) ∧
        (w.kind = .write ∨ w.kind = .control ∨ (w.kind = .read ∧ (o = .defer ∨ o = .protocol ∨ o = .noResponse)) →
          drives 0x00#8)) ∧
      ((pins s).sk1 = true ↔ fires .sk1) ∧ ((pins s).sk2 = true ↔ fires .sk2) ∧ ((pins s).sk4 = true ↔ fires .sk4)))

/-! ### Command codes and the window -/

/-- encodeCommand, which is Table 1 of spec/11 written out, and decodeCommand agree: a word decodes to a command exactly where the
table gives the command that word. -/
def Obligations.CommandCodesRoundTrip : Prop :=
  ∀ (c : Instr) (w : Word), encodeCommand c = some w ↔ decodeCommand w = some c

/-- During INIT and while RESET# is asserted a CMD write records INIT and does nothing else; every other window write is ignored. -/
def Obligations.WindowDuringInit : Prop :=
  ∀ s : State, s.inInit = true →
    (∀ (c : Instr) (w : Word), encodeCommand c = some w → exec c s = .next (s.answers .init)) ∧
    (∀ w, exec (.unknownCmd w) s = .next (s.answers .init)) ∧
    (∀ w, exec (.configWrite w) s = .next s ∧ exec (.attnCfgWrite w) s = .next s) ∧
    (∀ location w, isActionLocation location = false → exec (.windowWrite location w) s = .next s) ∧
    (∀ running, exec (.mdataRead running) s = .next { s with port := { s.port with readData := 0, rdyHeld := false } }) ∧
    (∀ w running, exec (.mdataWrite w running) s = .next { s with port := { s.port with rdyHeld := false } }) ∧
    (∀ location, location ≠ 0x01#5 → windowRead s location = 0) ∧
    (windowRead s 0x01#5).getLsbD 15 = true

/-- A word that is no command code answers UNKNOWN_CMD. A write of a read-only location, of 1Eh or of 1Fh is ignored; one of an
action location acts as that location's row (assumption 13 for this clause: the model's reading). -/
def Obligations.OtherWindowWrites : Prop :=
  (∀ (s : State) (w : Word), s.inInit = false → decodeCommand w = none → exec (.unknownCmd w) s = .next (s.answers .unknownCmd)) ∧
  (∀ (s : State) (w : Word),
     (∀ location ∈ [0x00#5, 0x01#5, 0x09#5, 0x0A#5, 0x0B#5, 0x14#5, 0x15#5, 0x16#5, 0x17#5, 0x19#5, 0x1A#5, 0x1B#5, 0x1E#5, 0x1F#5],
       exec (.windowWrite location w) s = .next s) ∧
     exec (.windowWrite 0x1C#5 w) s = exec (.configWrite w) s ∧
     exec (.windowWrite 0x1D#5 w) s = exec (.attnCfgWrite w) s ∧
     exec (.windowWrite 0x0D#5 w) s = exec (.mdataWrite w false) s ∧
     (∀ c, decodeCommand w = some c → exec (.windowWrite 0x02#5 w) s = exec c s) ∧
     (decodeCommand w = none → exec (.windowWrite 0x02#5 w) s = exec (.unknownCmd w) s))

/-- The read-only locations outside INIT (STATUS, 1Eh and 1Fh in INIT too) show their fields at their places, with their codes: ID,
STATUS, RESULT, the head completion, SRC_STATE, ALERT0 and ALERT1, ATTN, CH_STATUS, CH_CCB and FAULT; bits without a field and the
unassigned 1Eh and 1Fh read 0. -/
def Obligations.StatusAndHeadFields : Prop :=
  (∀ s : State, windowRead s 0x1E#5 = 0x0000#16 ∧ windowRead s 0x1F#5 = 0x0000#16 ∧
     (s.inInit = false → windowRead s 0x00#5 = 0x2140#16)) ∧
  (∀ s : State, s.rq.records.length ≤ 16 → s.cq.records.length ≤ 16 →
     let w := windowRead s 0x01#5
     w.getLsbD 15 = s.inInit ∧
     w.extractLsb' 13 2 = (match s.engine.run with | .running => 0#2 | .stopping => 1#2 | .halted => 2#2 | .stepping => 3#2) ∧
     w.extractLsb' 11 2 = (match s.engine.bus with | .idle => 0#2 | .cycle _ => 1#2 | .resetting _ _ => 2#2) ∧
     w.getLsbD 10 = s.fault.isSome ∧
     (w.extractLsb' 5 5).toNat = s.rq.records.length ∧
     (w.extractLsb' 0 5).toNat = s.cq.records.length) ∧
  (∀ (s : State) (r : Completion) (rest : List Completion), s.inInit = false → s.cq.records = r :: rest → r.defers ≤ 15 →
     windowRead s 0x09#5 &&& 0x08C0#16 = 0x0000#16 ∧ windowRead s 0x0A#5 &&& 0xF0F0#16 = 0x0000#16 ∧
     (windowRead s 0x09#5).extractLsb' 0 6 = r.tag ∧
     (windowRead s 0x09#5).extractLsb' 8 3 = (match r.kind with | .write => 1#3 | .read => 2#3 | .control => 3#3 | .fence => 4#3) ∧
     ((windowRead s 0x09#5).extractLsb' 12 4).toNat = (r.station.map Station.number).getD 0 ∧
     ((windowRead s 0x0A#5).extractLsb' 0 4).toNat = (match r.status with
       | .ok => 0 | .noResponse => 1 | .deferLimit => 2 | .parity => 3 | .busHang => 4 | .busReset => 5 | .stationOff => 6
       | .range => 7 | .protocol => 8) ∧
     ((windowRead s 0x0A#5).extractLsb' 8 4).toNat = r.defers ∧
     windowRead s 0x0B#5 = r.data) ∧
  (∀ s : State, s.inInit = false →
    (windowRead s 0x02#5).toNat = (match s.port.result with
      | .ok => 0 | .queueFull => 1 | .tagBusy => 2 | .badField => 3 | .empty => 4 | .badState => 5 | .chBusy => 6
      | .notInService => 7 | .sourceBusy => 8 | .already => 9 | .unknownCmd => 10 | .init => 11) ∧
    ((windowRead s 0x17#5).getLsbD 0 = s.attn.satn ∧
      ∀ n : Station, (windowRead s 0x17#5).getLsbD n.number = (s.attn.stations[n]).answer)) ∧
  (∀ s : State, s.inInit = false →
    (s.port.srcSel = 0#5 ∨ 19 < s.port.srcSel.toNat → windowRead s 0x14#5 = 0x0000#16) ∧
    ∀ x : Source, s.port.srcSel.toNat = x.number →
      let w := windowRead s 0x14#5
      w &&& 0x38FC#16 = 0x0000#16 ∧
      w.getLsbD 15 = sourcePending s x ∧
      (w.getLsbD 14 = true ↔ ∃ l : Line, inServiceOn s l x = true) ∧
      (w.extractLsb' 8 3).toNat = (match (s.alerts.config[x]).routing with
        | .masked => 0 | .line l => 1 + l.val | .channel c => 4 + c.val) ∧
      w.getLsbD 1 = (match x.station with | some n => (s.attn.stations[n]).fresh | none => false) ∧
      w.getLsbD 0 = (match x.station with | some n => (s.attn.stations[n]).answer | none => false)) ∧
  (∀ (s : State) (l : Line), s.inInit = false →
    let w := windowRead s (if l = 0 then 0x15#5 else 0x16#5)
    w &&& 0xE000#16 = 0x0000#16 ∧
    (w.extractLsb' 8 5).toNat = ((presented s l).map Source.number).getD 0 ∧
    ∀ p, p < 8 → (w.getLsbD p = true ↔ ∃ x : Source, inServiceOn s l x = true ∧ sourcePriority s x = p)) ∧
  (∀ s : State, s.inInit = false →
    let r := s.channels[s.port.chSel]
    let w := windowRead s 0x19#5
    (r.defers ≤ 15 → (w.extractLsb' 0 8).toNat = r.defers) ∧
    w.getLsbD 15 = r.endFlag ∧
    (w.extractLsb' 12 3).toNat = (match r.state with
      | .idle => 0 | .loading _ => 1 | .active => 2 | .moving _ => 3 | .ended => 4 | .faulted => 5) ∧
    (w.extractLsb' 8 4).toNat = (match r.reason with
      | .none => 0 | .noResponse => 1 | .deferLimit => 2 | .parity => 3 | .busHang => 4 | .busReset => 5 | .stationOff => 6
      | .range => 7 | .protocol => 8 | .address => 9 | .badCcb => 10 | .complete => 11 | .stopped => 12) ∧
    (windowRead s 0x1A#5).toNat = r.ccb.toNat) ∧
  (∀ s : State, s.inInit = false →
    (s.fault = none → windowRead s 0x1B#5 = 0x0000#16) ∧
    ∀ f, s.fault = some f →
      let w := windowRead s 0x1B#5
      w &&& 0x38F0#16 = 0x0000#16 ∧ w.getLsbD 15 = true ∧ w.getLsbD 14 = f.more ∧
      (w.extractLsb' 8 3).toNat = (match f.kind with
        | .busHang => 1 | .protocol => 2 | .identifyParity => 3 | .atnStuck => 4) ∧
      (w.extractLsb' 0 4).toNat = (f.station.map Station.number).getD 0)

/-- While the Completion Queue is empty, the head locations read as R76 gives, and no record reads so. -/
def Obligations.EmptyHeadReads : Prop :=
  (∀ s : State, s.inInit = false → s.cq.records = [] →
    windowRead s 0x09#5 = 0x0000#16 ∧ windowRead s 0x0A#5 = 0x000F#16 ∧ windowRead s 0x0B#5 = 0x0000#16 ∧
      (windowRead s 0x01#5).extractLsb' 0 5 = 0#5) ∧
  (∀ (s : State) (r : Completion) (rest : List Completion), s.inInit = false → s.cq.records = r :: rest →
    (windowRead s 0x09#5).extractLsb' 8 3 ≠ 0#3 ∧ (windowRead s 0x0A#5).extractLsb' 0 4 ≠ 0xF#4)

/-- After reset every location reads its value of the window map. The moment is assumption 1; ATTN reads 0000h because State.reset
holds SATN# deasserted (assumption 12): both the model's choice. -/
def Obligations.ResetWindowMap : Prop :=
  (List.range 32).map (fun i => windowRead State.reset (BitVec.ofNat 5 i)) =
    [0x2140#16, 0x4000#16, 0x0000#16, 0x0000#16, 0x0000#16, 0x0000#16, 0x0000#16, 0x0000#16,
     0x0000#16, 0x0000#16, 0x000F#16, 0x0000#16, 0x0000#16, 0x0000#16, 0x0000#16, 0x4100#16,
     0x2040#16, 0x4104#16, 0x0000#16, 0x0000#16, 0x0000#16, 0x0000#16, 0x0000#16, 0x0000#16,
     0x0000#16, 0x0000#16, 0x0000#16, 0x0000#16, 0x0033#16, 0x0020#16, 0x0000#16, 0x0000#16]

/-- A write of a plain location reads back with the bits without a field 0 and leaves the other plain locations as they were.
It stores into the fields of Tables 6 and 10 of spec/11 the bits those tables give them, and changes nothing else. -/
def Obligations.PlainLocationsStore : Prop :=
  (∀ (s : State) (location : BitVec 5) (mask : Word) (w : Word), s.inInit = false →
    (location, mask) ∈ [(0x03#5, 0xFFFF#16), (0x04#5, 0xFFFF#16), (0x05#5, 0xFFFF#16), (0x06#5, 0x873F#16), (0x07#5, 0x1FFF#16),
      (0x08#5, 0xFFFF#16), (0x0C#5, 0x0FFF#16), (0x0E#5, 0x001F#16), (0x0F#5, 0xC1FF#16), (0x10#5, 0xFFFF#16),
      (0x11#5, 0xFFFF#16), (0x12#5, 0x001F#16), (0x13#5, 0x0787#16), (0x18#5, 0x0003#16)] →
    ∃ t, exec (.windowWrite location w) s = .next t ∧ windowRead t location = w &&& mask ∧
      (∀ other, other ≠ location → other ∈ [0x02#5, 0x03#5, 0x04#5, 0x05#5, 0x06#5, 0x07#5, 0x08#5, 0x0C#5, 0x0E#5, 0x0F#5,
        0x10#5, 0x11#5, 0x12#5, 0x13#5, 0x18#5] → windowRead t other = windowRead s other) ∧
      t = { s with port := t.port, xmem := { s.xmem with mptr := t.xmem.mptr } }) ∧
  (∀ (s : State) (w : Word), s.inInit = false →
    let stores (location : BitVec 5) (p : Port) : Prop := exec (.windowWrite location w) s = .next { s with port := p }
    stores 0x03#5 { s.port with arg0 := w } ∧
    stores 0x04#5 { s.port with arg1 := w } ∧
    stores 0x05#5 { s.port with arg2 := w } ∧
    stores 0x06#5 { s.port with
      sub := { s.port.sub with silent := w.getLsbD 15, kind := w.extractLsb' 8 3, tag := w.extractLsb' 0 6 } } ∧
    stores 0x07#5 { s.port with sub := { s.port.sub with station := w.extractLsb' 8 5, operand := w.extractLsb' 0 8 } } ∧
    stores 0x08#5 { s.port with sub := { s.port.sub with data := w } } ∧
    stores 0x0E#5 { s.port with profSel := w.extractLsb' 0 5 } ∧
    stores 0x0F#5 { s.port with
      prof := { s.port.prof with
        enabled := w.getLsbD 15, parityCheck := w.getLsbD 14, registerCount := w.extractLsb' 0 9 } } ∧
    stores 0x10#5 { s.port with
      prof := { s.port.prof with responseWindow := w.extractLsb' 8 8, holdLimit := w.extractLsb' 0 8 } } ∧
    stores 0x11#5 { s.port with
      prof := { s.port.prof with
        pulseSpacing := w.extractLsb' 12 4, retryInterval := w.extractLsb' 4 8, deferLimit := w.extractLsb' 0 4 } } ∧
    stores 0x12#5 { s.port with srcSel := w.extractLsb' 0 5 } ∧
    stores 0x13#5 { s.port with
      src := { routing := w.extractLsb' 8 3, sense := if w.getLsbD 7 then .level else .edge, priority := w.extractLsb' 0 3 } } ∧
    (∀ c : Channel, (w.extractLsb' 0 2).toNat = c.val → stores 0x18#5 { s.port with chSel := c }) ∧
    exec (.windowWrite 0x0C#5 w) s = .next { s with xmem := { s.xmem with mptr := w.extractLsb' 0 12 } })

/-- CONFIG stores its four fields at once, every value being legal, and reads back; the divider in effect does not change. -/
def Obligations.ConfigWriteStores : Prop :=
  ∀ (s : State) (w : Word), s.inInit = false →
    ∃ t, exec (.configWrite w) s = .next t ∧ t = { s with cfg := t.cfg } ∧
      t.cfg.threshold = w.extractLsb' 12 4 ∧ t.cfg.haltOnError = w.getLsbD 8 ∧ t.cfg.share = w.extractLsb' 4 3 ∧
      t.cfg.divider = w.extractLsb' 0 4 ∧ windowRead t 0x1C#5 = w &&& 0xF17F#16

/-- ATTN_CFG stores the interval, 0 as 1, reads it back, and the next timer start takes it; it is 32 after reset, and ignores
writes and reads 0000h in INIT; a bus reset start leaves it. -/
def Obligations.IdentifyIntervalStored : Prop :=
  (∀ (s : State) (w : Word), s.inInit = false →
    ∃ t, exec (.attnCfgWrite w) s = .next t ∧ t = { s with attn := { s.attn with interval := t.attn.interval } } ∧
      t.attn.interval = (if w.extractLsb' 0 8 = 0#8 then 1#8 else w.extractLsb' 0 8) ∧
      windowRead t 0x1D#5 = 0#8 ++ t.attn.interval ∧
      (startIntervalTimer t).attn.timer = .running (8 * t.attn.interval.toNat)) ∧
  (∀ (s : State) (w : Word), s.inInit = true → exec (.attnCfgWrite w) s = .next s ∧ windowRead s 0x1D#5 = 0x0000#16) ∧
  (∀ s : State, s.inInit = false → ∃ t, exec .softReset s = .next t ∧ t.attn.interval = 32#8) ∧
  (∀ (s : State) (held : Nat), s.part ≠ .resetAsserted → 4 ≤ held →
    ∃ t, exec (.resetAssert held) s = .next t ∧ t.attn.interval = 32#8) ∧
  (∀ s : State, ∃ t, exec .busReset s = .next t ∧ t.attn.interval = s.attn.interval)

/-! ### Exchange memory -/

/-- The exchange memory returns the last word written to an address and keeps every other word. -/
def Obligations.MemoryReadsLastWrite : Prop :=
  ∀ (m : Memory) (a b : Nat) (w : Word), Memory.wf m → a < 4096 →
    Memory.wf (Memory.write m a w) ∧ Memory.read (Memory.write m a w) a = w ∧
      (b ≠ a → Memory.read (Memory.write m a w) b = Memory.read m b)

/-- An MDATA access reads or writes the word at MPTR, advances MPTR once, wrapping, and makes the window the claimant served
last. Where a Block Channels access runs as the claim arrives, or the window was served last and a channel waits, the channel
next in the rotation has its one access first and RDY is held back; otherwise the window is served at once (the operand that
says whether an access runs is assumption 6: the model's choice). -/
def Obligations.MdataAccess : Prop :=
  (∀ (s : State) (running : Bool), s.inInit = false →
     ((running = false ∧ s.xmem.lastServed = .channels) ∨ ∀ c : Channel, wantsMemory (s.channels[c]).state = false) →
     exec (.mdataRead running) s = .next
       { s with
         port := { s.port with readData := Memory.read s.xmem.mem s.xmem.mptr.toNat, rdyHeld := false }
         xmem := { s.xmem with mptr := s.xmem.mptr + 1, lastServed := .window } } ∧
     ∀ w, exec (.mdataWrite w running) s = .next
       { s with
         port := { s.port with rdyHeld := false }
         xmem := { s.xmem with
           mem := Memory.write s.xmem.mem s.xmem.mptr.toNat w, mptr := s.xmem.mptr + 1, lastServed := .window } }) ∧
  (∀ (s : State) (running : Bool) (c : Channel), s.inInit = false → (running = true ∨ s.xmem.lastServed = .window) →
     turnOf s c →
     let a := channelAccess c s
     exec (.mdataRead running) s = .next
       { a with
         port := { s.port with readData := Memory.read a.xmem.mem s.xmem.mptr.toNat, rdyHeld := true }
         xmem := { a.xmem with mptr := s.xmem.mptr + 1, lastServed := .window } } ∧
     ∀ w, exec (.mdataWrite w running) s = .next
       { a with
         port := { s.port with rdyHeld := true }
         xmem := { a.xmem with
           mem := Memory.write a.xmem.mem s.xmem.mptr.toNat w, mptr := s.xmem.mptr + 1, lastServed := .window } })

/-! ### Run control -/

/-- RUN, STOP and STEP set the run state that their rules give and answer OK, or STEP answers BAD_STATE outside HALTED. -/
def Obligations.RunStopStep : Prop :=
  ∀ s : State, s.inInit = false →
    exec .run s = .next ((s.toRun .running).answers .ok) ∧
    exec .stop s = .next ((s.toRun (match s.engine.run with
      | .running => if s.busy then .stopping else .halted
      | .stepping => if s.busy then .stopping else .halted
      | .stopping => .stopping
      | .halted => .halted)).answers .ok) ∧
    (s.engine.run = .halted → exec .step s = .next ((s.toRun .stepping).answers .ok)) ∧
    (s.engine.run ≠ .halted → exec .step s = .next (s.answers .badState))

/-! ### Request Queue and Completion Queue -/

/-- FLUSH removes every record that is not ACTIVE, frees its tag and its reservation, counts the removed in ARG2 and touches
nothing else. -/
def Obligations.FlushRemovesRecords : Prop :=
  ∀ s : State,
    (s.inInit = true → exec .flush s = .next (s.answers .init)) ∧
    (s.inInit = false →
      ∃ t, exec .flush s = .next t ∧
        t = { s with
          rq := { s.rq with records := s.rq.records.filter fun r => r.state = .active }
          cq := { s.cq with reserved := t.cq.reserved, tags := t.cq.tags }
          port := { s.port with result := .ok, arg2 := t.port.arg2 } } ∧
        t.port.arg2 = BitVec.ofNat 16 (s.rq.records.length - t.rq.records.length) ∧
        t.cq.reserved = s.cq.reserved - (s.rq.records.filter fun r => r.state ≠ .active ∧ r.reserved = true).length ∧
        ∀ tag : Tag, t.cq.tags[tag.toNat] = true ↔
          s.cq.tags[tag.toNat] = true ∧ ∀ r ∈ s.rq.records, r.state ≠ .active → r.tag ≠ tag)

/-- POST checks the fields, the tag and the queue's room in this order; a refused POST only writes RESULT, an accepted one
appends a WAITING record of the staged fields and puts its tag into the tag-in-use set. -/
def Obligations.PostQueuesRequest : Prop :=
  (∀ s : State,
     (s.inInit = true → exec .post s = .next (s.answers .init)) ∧
     (s.inInit = false →
       ((¬ ∃ b, s.port.sub.asksFor b) → exec .post s = .next (s.answers .badField)) ∧
       ∀ b, s.port.sub.asksFor b →
         (s.cq.tags[s.port.sub.tag.toNat] = true → exec .post s = .next (s.answers .tagBusy)) ∧
         (s.cq.tags[s.port.sub.tag.toNat] = false → 16 ≤ s.rq.records.length → exec .post s = .next (s.answers .queueFull)))) ∧
  (∀ (s : State) (b : RequestBody), s.inInit = false → s.port.sub.asksFor b → s.cq.tags[s.port.sub.tag.toNat] = false →
     s.rq.records.length < 16 →
     exec .post s = .next
       { s with
         rq := { s.rq with
           records := s.rq.records ++ [{ tag := s.port.sub.tag, body := b, state := .waiting, defers := 0, reserved := false }] }
         cq := { s.cq with tags := s.cq.tags.set s.port.sub.tag.toNat true }
         port := { s.port with result := .ok } })

/-- POP removes the head completion and frees its tag, or answers EMPTY. -/
def Obligations.PopRemovesHead : Prop :=
  ∀ s : State,
    (s.inInit = true → exec .pop s = .next (s.answers .init)) ∧
    (s.inInit = false →
      (s.cq.records = [] → exec .pop s = .next (s.answers .empty)) ∧
      ∀ r rest, s.cq.records = r :: rest →
        exec .pop s = .next
          { s with
            cq := { s.cq with records := rest, tags := s.cq.tags.set r.tag.toNat false }
            port := { s.port with result := .ok } })

/-- A backoff timer expires and returns its station's BACKOFF record to WAITING; the identify interval timer lapses. Both do so
whatever the periods left, for which the row stands (assumption 4), and a timer that does not run does neither (assumption 2):
the model's choice. -/
def Obligations.TimersExpire : Prop :=
  (∀ (s : State) (n : Station),
     (∀ k, s.rq.backoff[n] = some k →
       exec (.backoffExpiry n) s = .next
         { s with
           rq := {
             records := s.rq.records.map fun r =>
               if r.state = .backoff ∧ r.body.station = some n then { r with state := .waiting } else r
             backoff := s.rq.backoff.set n none } }) ∧
     (s.rq.backoff[n] = none → exec (.backoffExpiry n) s = .next s)) ∧
  (∀ s : State,
     (∀ k, s.attn.timer = .running k →
       exec .identifyIntervalLapse s = .next { s with attn := { s.attn with timer := .lapsed } }) ∧
     ((∀ k, s.attn.timer ≠ .running k) → exec .identifyIntervalLapse s = .next s))

/-! ### Station Table and alert sources -/

/-- PROF_APPLY copies a legal staged profile into the selected station, whole, and clears the three attention items of a
station it disables; any illegal field or index answers BAD_FIELD and changes nothing else. -/
def Obligations.ProfApplyCopiesOrRefuses : Prop :=
  ∀ s : State, s.inInit = false →
    (s.port.profSel = 0#5 ∨ 15 < s.port.profSel.toNat ∨ ¬ s.port.prof.inRanges →
      exec .profApply s = .next (s.answers .badField)) ∧
    ∀ n : Station, s.port.profSel.toNat = n.number → s.port.prof.inRanges →
      exec .profApply s = .next
        { s with
          profiles := s.profiles.set n s.port.prof
          attn := { s.attn with
            stations :=
              if (s.profiles[n]).enabled = true ∧ s.port.prof.enabled = false then
                s.attn.stations.set n { s.attn.stations[n] with pending := false, fresh := false, previous := false }
              else s.attn.stations }
          port := { s.port with result := .ok } }

/-- PROF_LOAD copies the selected profile, SRC_LOAD the selected source's routing, sense and priority, into the staging words, or
they answer BAD_FIELD. -/
def Obligations.LoadCommandsCopy : Prop :=
  (∀ s : State, s.inInit = false →
     (s.port.profSel = 0#5 ∨ 15 < s.port.profSel.toNat → exec .profLoad s = .next (s.answers .badField)) ∧
     ∀ n : Station, s.port.profSel.toNat = n.number →
       exec .profLoad s = .next { s with port := { s.port with prof := s.profiles[n], result := .ok } }) ∧
  (∀ s : State,
     (s.inInit = true → exec .srcLoad s = .next (s.answers .init)) ∧
     (s.inInit = false →
       (s.port.srcSel = 0#5 ∨ 19 < s.port.srcSel.toNat → exec .srcLoad s = .next (s.answers .badField)) ∧
       ∀ x : Source, s.port.srcSel.toNat = x.number →
         exec .srcLoad s = .next
           { s with
             port := { s.port with
               result := .ok
               src := {
                 routing := (s.alerts.config[x]).routing.code
                 sense := match x.station with
                   | some n => s.alerts.sense[n]
                   | none => if x = Source.halted then .edge else .level
                 priority := (s.alerts.config[x]).priority } } }))

/-- SRC_APPLY refuses an index or routing that is none for the source, then a source in service; else it sets routing, sense and
priority and clears the flags a routing change clears. -/
def Obligations.SrcApplyConfigures : Prop :=
  (∀ s : State,
     (s.inInit = true → exec .srcApply s = .next (s.answers .init)) ∧
     (s.inInit = false →
       (s.port.srcSel = 0#5 ∨ 19 < s.port.srcSel.toNat ∨ s.port.src.routing = 3#3 ∨
           (16 ≤ s.port.srcSel.toNat ∧ 4 ≤ s.port.src.routing.toNat) →
         exec .srcApply s = .next (s.answers .badField)) ∧
       ∀ x : Source, s.port.srcSel.toNat = x.number → s.port.src.routing ≠ 3#3 →
         (16 ≤ x.number → s.port.src.routing.toNat < 4) → (∃ l : Line, inServiceOn s l x = true) →
         exec .srcApply s = .next (s.answers .sourceBusy))) ∧
  (∀ (s : State) (x : Source) (route : Routing), s.inInit = false → s.port.srcSel.toNat = x.number →
     route.code = s.port.src.routing → (16 ≤ x.number → route.isChannel = false) → (∀ l : Line, inServiceOn s l x = false) →
     exec .srcApply s = .next
       { s with
         alerts := { s.alerts with
           config := s.alerts.config.set x { routing := route, priority := s.port.src.priority }
           sense := match x.station with
             | some n => s.alerts.sense.set n s.port.src.sense
             | none => s.alerts.sense
           haltedPending :=
             if x = Source.halted ∧ (s.alerts.config[x]).routing ≠ route then false else s.alerts.haltedPending }
         attn := { s.attn with
           stations := match x.station with
             | some n =>
               if (s.alerts.config[x]).routing = route then s.attn.stations
               else s.attn.stations.set n { s.attn.stations[n] with pending := false, fresh := false }
             | none => s.attn.stations }
         port := { s.port with result := .ok } })

/-! ### Alert lines -/

/-- The presented source of a line is the presentable one of highest priority, the lowest number among equals. -/
def Obligations.PresentedSource : Prop :=
  ∀ (s : State) (l : Line),
    let able := fun x : Source => s.lineOf x = some l ∧ sourcePending s x = true ∧ (∀ m : Line, inServiceOn s m x = false) ∧
      ∀ y : Source, inServiceOn s l y = true → sourcePriority s y < sourcePriority s x
    (∀ x : Source, presented s l = some x ↔
      able x ∧ ∀ y : Source, able y → sourcePriority s y < sourcePriority s x ∨ (sourcePriority s y = sourcePriority s x ∧ x ≤ y)) ∧
    (presented s l = none ↔ ∀ x : Source, ¬ able x)

/-- The pending flag of an internal source follows its condition while the source is routed to a line; a line's output is
asserted exactly while it has a presented source. -/
def Obligations.InternalSourcesAndOutputs : Prop :=
  ∀ s : State,
    (sourcePending s Source.completion = true ↔
      (s.lineOf Source.completion).isSome = true ∧ s.cfg.threshold.toNat + 1 ≤ s.cq.records.length) ∧
    (sourcePending s Source.channelEnd = true ↔
      (s.lineOf Source.channelEnd).isSome = true ∧ ∃ c : Channel, (s.channels[c]).endFlag = true) ∧
    (sourcePending s Source.fault = true ↔ (s.lineOf Source.fault).isSome = true ∧ s.fault ≠ none) ∧
    (sourcePending s Source.halted = true ↔ (s.lineOf Source.halted).isSome = true ∧ s.alerts.haltedPending = true) ∧
    ∀ l : Line, alertAsserted s l = true ↔ ∃ x : Source, presented s l = some x

/-- TAKE puts the presented source into service, names it in ARG2 and clears an edge source's pending flag. END takes the named
source, or the top, out of service. Bad arguments answer BAD_FIELD, a source not in service NOT_IN_SERVICE. -/
def Obligations.TakeAndEnd : Prop :=
  (∀ s : State,
     (s.inInit = true → exec .take s = .next (s.answers .init)) ∧
     (s.inInit = false →
       (1 < s.port.arg0.toNat → exec .take s = .next (s.answers .badField)) ∧
       ∀ l : Line, s.port.arg0.toNat = l.val →
         (presented s l = none → exec .take s = .next { s with port := { s.port with arg2 := 0, result := .ok } }) ∧
         ∀ x : Source, presented s l = some x →
           exec .take s = .next
             { s with
               alerts := { s.alerts with
                 inService := s.alerts.inService.set l ((s.alerts.inService[l]).set x true)
                 haltedPending := if x = Source.halted then false else s.alerts.haltedPending }
               attn := { s.attn with
                 stations := match x.station with
                   | some n =>
                     match s.alerts.sense[n] with
                     | .edge => s.attn.stations.set n { s.attn.stations[n] with pending := false }
                     | .level => s.attn.stations
                   | none => s.attn.stations }
               port := { s.port with arg2 := BitVec.ofNat 16 x.number, result := .ok } })) ∧
  (∀ s : State,
     (s.inInit = true → exec .endService s = .next (s.answers .init)) ∧
     (s.inInit = false →
       (1 < s.port.arg0.toNat ∨ 19 < s.port.arg1.toNat → exec .endService s = .next (s.answers .badField)) ∧
       ∀ l : Line, s.port.arg0.toNat = l.val →
         let removed (x : Source) : State :=
           { s with
             alerts := { s.alerts with inService := s.alerts.inService.set l ((s.alerts.inService[l]).set x false) }
             port := { s.port with result := .ok } }
         (∀ x : Source, s.port.arg1.toNat = x.number →
           exec .endService s = .next (if inServiceOn s l x then removed x else s.answers .notInService)) ∧
         (∀ x : Source, s.port.arg1 = 0#16 → inServiceOn s l x = true →
           (∀ y : Source, inServiceOn s l y = true → y ≠ x → sourcePriority s y < sourcePriority s x) →
           exec .endService s = .next (removed x)) ∧
         (s.port.arg1 = 0#16 → (∀ x : Source, inServiceOn s l x = false) → exec .endService s = .next (s.answers .notInService))))

/-! ### Fault record -/

/-- An empty record takes a fault, a full one only sets more; CLEAR_FAULT empties it and lifts the suspension, nothing else. -/
def Obligations.FaultRecordWrittenAndCleared : Prop :=
  (∀ (s : State) (k : FaultKind) (n : Option Station), writeFault k n s =
    { s with
      fault := some (match s.fault with
        | none => { kind := k, station := n, more := false }
        | some f => { kind := f.kind, station := f.station, more := true }) } ∧
    faultCondition (writeFault k n s) = true) ∧
  (∀ s : State, s.inInit = true → exec .clearFault s = .next (s.answers .init)) ∧
  ∀ s : State, s.inInit = false →
    ∃ t, exec .clearFault s = .next t ∧ faultCondition t = false ∧
      t = { s with fault := none, attn := { s.attn with suspended := false }, port := { s.port with result := .ok } }

/-! ### Block channel commands -/

/-- ARM starts an IDLE, ENDED or FAULTED channel on a CCB with its flags cleared, or refuses; CH_STOP ends an ACTIVE channel and
asks a LOADING or MOVING one to stop; CH_ACK clears the end flag. -/
def Obligations.ChannelCommands : Prop :=
  (∀ s : State, s.inInit = false →
     (3 < s.port.arg0.toNat → exec .arm s = .next (s.answers .badField)) ∧
     ∀ c : Channel, s.port.arg0.toNat = c.val →
       ((s.channels[c]).state.isLoadingOrActive = true ∨ (s.channels[c]).state.isMoving = true →
         exec .arm s = .next (s.answers .chBusy)) ∧
       ((s.channels[c]).state = .idle ∨ (s.channels[c]).state = .ended ∨ (s.channels[c]).state = .faulted →
         (0xFFC < s.port.arg1.toNat → exec .arm s = .next (s.answers .badField)) ∧
         (s.port.arg1.toNat ≤ 0xFFC → exec .arm s = .next
           { s with
             channels := s.channels.set c
               { state := .loading .control, ccb := s.port.arg1.extractLsb' 0 12, control := none, link := none
                 keptCount := none, keptAddress := none, defers := 0, stopRequested := false, endFlag := false, reason := .none }
             port := { s.port with result := .ok } }))) ∧
  (∀ s : State, s.inInit = false →
     (3 < s.port.arg0.toNat →
       exec .chStop s = .next (s.answers .badField) ∧ exec .chAck s = .next (s.answers .badField)) ∧
     ∀ c : Channel, s.port.arg0.toNat = c.val →
       ((s.channels[c]).state = .active → exec .chStop s = .next
         { s with
           channels := s.channels.set c ((s.channels[c]).ends .ended .stopped)
           port := { s.port with result := .ok } }) ∧
       ((∃ l, (s.channels[c]).state = .loading l) ∨ (s.channels[c]).state.isMoving = true → exec .chStop s = .next
         { s with
           channels := s.channels.set c { s.channels[c] with stopRequested := true }
           port := { s.port with result := .ok } }) ∧
       ((s.channels[c]).state = .idle ∨ (s.channels[c]).state = .ended ∨ (s.channels[c]).state = .faulted →
         exec .chStop s = .next (s.answers .badState)) ∧
       exec .chAck s = .next
         { s with
           channels := s.channels.set c { s.channels[c] with endFlag := false }
           port := { s.port with result := .ok } })

/-! ### Attention -/

/-- An assertion of SATN# clears the identify mark, so an IDENTIFY is due unless the controller is suspended; a deassertion clears
level pending flags, fresh flags, previous-answer bits, the counter, the suspension and the mark and stops the timer. A level
that does not change is no event (assumption 2 for these clauses: the model's choice). -/
def Obligations.SatnEdges : Prop :=
  ∀ s : State,
    (s.attn.satn = false →
      exec .satnAssertion s = .next { s with attn := { s.attn with satn := true, mark := false } } ∧
      (dueIdentify { s with attn := { s.attn with satn := true, mark := false } } ↔ s.attn.suspended = false) ∧
      exec .satnDeassertion s = .next s) ∧
    (s.attn.satn = true →
      exec .satnAssertion s = .next s ∧
      ∃ t, exec .satnDeassertion s = .next t ∧
        t = { s with
          attn := { s.attn with
            satn := false, mark := false, timer := .stopped, emptyAnswers := 0, suspended := false,
            stations := t.attn.stations } } ∧
        ∀ n : Station, t.attn.stations[n] =
          { s.attn.stations[n] with
            pending := (if s.alerts.sense[n] = .level then false else (s.attn.stations[n]).pending)
            fresh := false
            previous := false })

/-- An IDENTIFY that ends with ANSWER gives every station its flags by enable, routing and sense, starts the interval timer and
counts empty answers, the fourth of which writes ATN_STUCK and suspends. IDENTIFY_PARITY writes its fault and starts the timer;
nothing of the answer is kept. -/
def Obligations.IdentifyOutcomeTaken : Prop :=
  (∀ (s : State) (w : BusWork) (c : Cycle) (a : Word), s.engine.bus = .cycle w → w.owner = .attention →
     w.cycle = some c → c.phase = .ending (.answer a) →
     let requesting := ∃ n : Station, (s.profiles[n]).enabled = true ∧ a.getLsbD n.number = true
     ∃ t, exec .cycleEnd s = .next t ∧
       t = { s with
         engine := { s.engine with bus := .idle, run := runAfterWork false s.engine.run, divider := s.cfg.divider }
         alerts := { s.alerts with haltedPending := t.alerts.haltedPending }
         attn := { s.attn with
           stations := t.attn.stations, timer := .running (8 * s.attn.interval.toNat)
           emptyAnswers := t.attn.emptyAnswers, suspended := t.attn.suspended }
         fault := t.fault } ∧
       t.alerts.haltedPending = (s.toRun (runAfterWork false s.engine.run)).alerts.haltedPending ∧
       (s.attn.satn = false ∨ requesting → t.attn.suspended = s.attn.suspended ∧ t.fault = s.fault) ∧
       (s.attn.satn = false → t.attn.emptyAnswers = s.attn.emptyAnswers) ∧
       (s.attn.satn = true → requesting → t.attn.emptyAnswers = 0) ∧
       (s.attn.satn = true → ¬ requesting → s.attn.emptyAnswers < 3 →
         t.attn.emptyAnswers = s.attn.emptyAnswers + 1 ∧ t.attn.suspended = s.attn.suspended ∧ t.fault = s.fault) ∧
       (s.attn.satn = true → ¬ requesting → 3 ≤ s.attn.emptyAnswers →
         t.attn.emptyAnswers = 0 ∧ t.attn.suspended = true ∧ t.fault = faultAfter s.fault .atnStuck none) ∧
       ∀ n : Station,
         let b := a.getLsbD n.number
         let x := s.attn.stations[n]
         let enabled := (s.profiles[n]).enabled
         let route := (s.alerts.config[n.source]).routing
         let y := t.attn.stations[n]
         y.answer = b ∧
         (enabled = true → s.attn.satn = true → y.previous = b) ∧
         (enabled = false ∨ s.attn.satn = false → y.previous = x.previous) ∧
         (enabled = true → s.attn.satn = true → route.isChannel = true → y.fresh = b) ∧
         (enabled = false ∨ s.attn.satn = false ∨ route.isChannel = false → y.fresh = x.fresh) ∧
         (enabled = true → route.toLine.isSome = true → s.alerts.sense[n] = .edge →
           y.pending = (x.pending || (b && !x.previous))) ∧
         (enabled = true → route.toLine.isSome = true → s.alerts.sense[n] = .level →
           y.pending = (if s.attn.satn then b else x.pending)) ∧
         (enabled = false ∨ route.toLine = none → y.pending = x.pending)) ∧
  (∀ (s : State) (w : BusWork) (c : Cycle), s.engine.bus = .cycle w → w.owner = .attention →
     w.cycle = some c → c.phase = .ending .identifyParity →
     exec .cycleEnd s = .next
       (({ s with
         engine := { s.engine with bus := .idle, divider := s.cfg.divider }
         attn := { s.attn with timer := .running (8 * s.attn.interval.toNat) }
         fault := faultAfter s.fault .identifyParity none } : State).toRun (runAfterWork false s.engine.run)))

/-! ### The Engine's choice -/

/-- No choice is made, and nothing changes, outside RUNNING and STEPPING, off an idle bus, in INIT, or with nothing offered;
an IDENTIFY that is due is granted ahead of everything: its mark is set, the timer stops and its cycle begins. -/
def Obligations.DispatchGrantsIdentifyFirst : Prop :=
  ∀ s : State,
    (¬ mayDispatch s → exec .dispatchChoice s = .next s) ∧
    (¬ dueIdentify s → candidate s = none → nextChannel s = none → exec .dispatchChoice s = .next s) ∧
    (mayDispatch s → dueIdentify s → exec .dispatchChoice s = .next
      { s with
        engine := { s.engine with
          bus := .cycle
            { owner := .attention, kind := .identify, station := none, operand := 0, data := 0
              cycle := some { captured := none, phase := .select1, hold := 0 } } }
        attn := { s.attn with mark := true, timer := .stopped } })

/-- The queue offers its oldest eligible record, the block channels the first eligible channel after the round-robin pointer. -/
def Obligations.OffersOfQueueAndChannels : Prop :=
  (∀ s : State,
     (∀ r : Request, candidate s = some r ↔
       ∃ older younger, s.rq.records = older ++ r :: younger ∧ mayGo s older r ∧
         ∀ (before after : List Request) (x : Request), older = before ++ x :: after → ¬ mayGo s before x) ∧
     (candidate s = none ↔
       ∀ (older younger : List Request) (r : Request), s.rq.records = older ++ r :: younger → ¬ mayGo s older r)) ∧
  (∀ s : State,
     (∀ c : Channel, nextChannel s = some c ↔
       ∃ k : Fin 4, c = s.engine.pointer + 1 + k ∧ mayMove s c ∧ ∀ j : Fin 4, j < k → ¬ mayMove s (s.engine.pointer + 1 + j)) ∧
     (nextChannel s = none ↔ ∀ c : Channel, ¬ mayMove s c))

/-- A granted channel word: the share counter rises where a request was offered, the pointer names the channel, the channel is
MOVING at its count step and the bus is held for it. -/
def Obligations.DispatchGrantsChannelWord : Prop :=
  ∀ (s : State) (c : Channel) (k : Control), mayDispatch s → ¬ dueIdentify s → nextChannel s = some c →
    (s.channels[c]).control = some k → (candidate s = none ∨ s.engine.share < s.cfg.share.toNat + 1) →
    exec .dispatchChoice s = .next
      { s with
        engine := { s.engine with
          share := if (candidate s).isSome then s.engine.share + 1 else s.engine.share
          pointer := c
          bus := .cycle
            { owner := .channel c, kind := if k.out then .write else .read, station := some k.station, operand := k.offset
              data := 0, cycle := none } }
        channels := s.channels.set c { s.channels[c] with state := .moving .countRead } }

/-- A granted request takes its reservation, clears the share counter and retires at dispatch (FENCE, STATION_OFF, RANGE) or
begins its cycle with the profile values of that moment. -/
def Obligations.DispatchGrantsRequest : Prop :=
  ∀ (s : State) (r : Request), mayDispatch s → ¬ dueIdentify s → candidate s = some r →
    (nextChannel s = none ∨ s.cfg.share.toNat + 1 ≤ s.engine.share) →
    let granted : State :=
      { s with
        engine := { s.engine with share := 0 }
        cq := { s.cq with reserved := if r.reserved then s.cq.reserved else s.cq.reserved + 1 } }
    let active : State :=
      { granted with
        rq := { s.rq with
          records := s.rq.records.map fun x => if x.tag = r.tag then { r with state := .active, reserved := true } else x } }
    let begins (kind : CycleKind) (n : Station) (operand : Byte) (data : Word) : State :=
      let p := s.profiles[n]
      { active with
        engine := { active.engine with
          bus := .cycle
            { owner := .queue r.tag, kind := kind, station := some n, operand := operand, data := data
              cycle := some
                { captured := some
                    { window := p.responseWindow, hold := p.holdLimit, spacing := p.pulseSpacing, parity := p.parityCheck }
                  phase := .select1, hold := 0 } } } }
    let fails (st : Status) : State := (granted.retired r st 0).toRun (runAfterTrigger s.cfg.haltOnError false s.engine.run)
    exec .dispatchChoice s = .next (match r.body with
      | .fence => granted.retired r .ok 0
      | .write n offset data _ =>
        if (s.profiles[n]).enabled = false then fails .stationOff
        else if (s.profiles[n]).registerCount.toNat ≤ offset.toNat then fails .range
        else begins .write n offset data
      | .read n offset =>
        if (s.profiles[n]).enabled = false then fails .stationOff
        else if (s.profiles[n]).registerCount.toNat ≤ offset.toNat then fails .range
        else begins .read n offset 0
      | .control n mask =>
        if (s.profiles[n]).enabled = false then fails .stationOff else begins .control n (0#5 ++ mask) 0)

/-! ### The cycle -/

/-- The response: ACK leads to the kind's next phase, DEFER, PROTOCOL and a silent window decide the outcome. Outside the
window nothing is sampled (assumption 4: the row stands for the SELECT periods before it). -/
def Obligations.ResponseDecides : Prop :=
  (∀ (s : State) (w : BusWork) (c : Cycle), s.engine.bus = .cycle w → w.cycle = some c → w.kind ≠ .identify →
    (c.phase = .select1 ∨ c.phase = .select2 ∨ ∃ k, c.phase = .response k) →
    (w.kind = .write → exec (.stationResponse 1#2) s = .next (s.atPhase w c .dataHigh)) ∧
    (w.kind = .read → exec (.stationResponse 1#2) s = .next (s.atPhase w c .turnaround)) ∧
    (w.kind = .control → ∀ first rest,
      (if w.operand.getLsbD 0 then [PulseLine.sk1] else []) ++ (if w.operand.getLsbD 1 then [PulseLine.sk2] else []) ++
        (if w.operand.getLsbD 2 then [PulseLine.sk4] else []) = first :: rest →
      exec (.stationResponse 1#2) s = .next (s.atPhase w c (.pulse (first :: rest) 1))) ∧
    exec (.stationResponse 2#2) s = .next (s.atPhase w c (.ending .defer)) ∧
    exec (.stationResponse 3#2) s = .next (s.atPhase w c (.ending .protocol)) ∧
    exec (.stationResponse 0#2) s = .next s ∧
    exec .responseWindowExpiry s = .next (s.atPhase w c (.ending .noResponse))) ∧
  (∀ (s : State) (code : BitVec 2),
    (∀ (w : BusWork) (c : Cycle), s.engine.bus = .cycle w → w.cycle = some c →
      w.kind = .identify ∨ (c.phase ≠ .select1 ∧ c.phase ≠ .select2 ∧ ∀ k, c.phase ≠ .response k)) →
    exec (.stationResponse code) s = .next s ∧ exec .responseWindowExpiry s = .next s)

/-- The bytes of the DATA phase: the second byte of a WRITE decides ACK, that of a READ decides ACK with the data, or PARITY
where the captured check is on and one of the bytes has even parity. -/
def Obligations.BytesTransfer : Prop :=
  (∀ (b : Byte) (spar : Bool), parityGood b spar = true ↔
    (((List.range 8).filter fun i => b.getLsbD i).length + spar.toNat) % 2 = 1) ∧
  (∀ (s : State) (w : BusWork) (c : Cycle) (sad : Byte) (spar : Bool), s.engine.bus = .cycle w → w.cycle = some c →
    let bad := (match c.captured with | some p => p.parity | none => false) && !parityGood sad spar
    (w.kind = .write → c.phase = .dataHigh →
      exec (.byteTransfer sad spar) s = .next (s.atPhase w c (.dataLow 0 false))) ∧
    (w.kind = .write → ∀ high e, c.phase = .dataLow high e →
      exec (.byteTransfer sad spar) s = .next (s.atPhase w c (.ending (.ack none)))) ∧
    (w.kind = .read → c.phase = .turnaround ∨ c.phase = .dataHigh →
      exec (.byteTransfer sad spar) s = .next (s.atPhase w c (.dataLow sad bad))) ∧
    (w.kind = .read → ∀ high e, c.phase = .dataLow high e →
      exec (.byteTransfer sad spar) s = .next (s.atPhase w c
        (.ending (if e || bad then .parity (high ++ sad) else .ack (some (high ++ sad))))))) ∧
  (∀ (s : State) (sad : Byte) (spar : Bool),
    (∀ (w : BusWork) (c : Cycle), s.engine.bus = .cycle w → w.cycle = some c → inData w c = false) →
    exec (.byteTransfer sad spar) s = .next s)

/-- The hold limit decides BUS_HANG in the DATA phase, the sample of SSENSE decides the ACK of a CONTROL with its sense, the
check of the low answer byte decides ANSWER or IDENTIFY_PARITY; outside their phases, an IDENTIFY in END among them, they change
nothing (assumption 2, the model's choice). -/
def Obligations.HoldSenseAndAnswerDecide : Prop :=
  (∀ (s : State) (w : BusWork) (c : Cycle), s.engine.bus = .cycle w → w.cycle = some c →
    (w.kind = .write ∨ w.kind = .read →
      c.phase = .dataHigh ∨ (∃ high e, c.phase = .dataLow high e) ∨ (w.kind = .read ∧ c.phase = .turnaround) →
      ∀ p, c.captured = some p →
        exec .holdLimitReached s = .next
          (s.atPhase w { c with hold := 16 * p.hold.toNat } (.ending .busHang))) ∧
    (∀ level, (∃ lines k, c.phase = .pulse lines k) ∨ (∃ k, c.phase = .sense k) →
      exec (.senseSample level) s = .next (s.atPhase w c (.ending (.ack (some (if level then 1 else 0)))))) ∧
    (w.kind = .identify → c.phase = .select1 ∨ c.phase = .turnaround ∨ (∃ k, c.phase = .answer k) →
      ∀ high p low q, exec (.answerCheckSample high p low q) s = .next (s.atPhase w c
        (.ending (if parityGood high p && parityGood low q then .answer (high ++ low) else .identifyParity))))) ∧
  (∀ s : State,
    ((∀ (w : BusWork) (c : Cycle), s.engine.bus = .cycle w → w.cycle = some c → inData w c = false) →
      exec .holdLimitReached s = .next s) ∧
    (∀ level, (∀ (w : BusWork) (c : Cycle), s.engine.bus = .cycle w → w.cycle = some c →
        (∀ lines k, c.phase ≠ .pulse lines k) ∧ ∀ k, c.phase ≠ .sense k) →
      exec (.senseSample level) s = .next s) ∧
    (∀ high p low q, (∀ (w : BusWork) (c : Cycle), s.engine.bus = .cycle w → w.cycle = some c →
        w.kind ≠ .identify ∨ (c.phase ≠ .select1 ∧ c.phase ≠ .turnaround ∧ ∀ k, c.phase ≠ .answer k)) →
      exec (.answerCheckSample high p low q) s = .next s))

/-- A request's cycle ends with an outcome other than DEFER and BUS_HANG: the record retires with its status and data, the bus
goes idle, a STOPPING or STEPPING engine halts, a failure halts under halt-on-error, PROTOCOL writes the fault record. -/
def Obligations.RequestCycleRetires : Prop :=
  ∀ (s : State) (w : BusWork) (c : Cycle) (t : Tag) (r : Request) (o : CycleOutcome) (st : Status) (data : Word),
    s.engine.bus = .cycle w → w.owner = .queue t → w.cycle = some c → c.phase = .ending o → o ≠ .busHang →
    s.rq.records.find? (fun x => x.tag = t) = some r → o.retires = some (st, data) →
    exec .cycleEnd s = .next
      ((({ s with
        engine := { s.engine with bus := .idle, divider := s.cfg.divider }
        fault := o.faultRecord w.station s.fault } : State).retired r st data).toRun
          (runAfterWork (s.cfg.haltOnError && st != .ok) s.engine.run))

/-- A request's cycle ends with DEFER: at the defer limit it retires DEFER_LIMIT, below it the record goes to BACKOFF and the
station's timer starts for 8 times the retry interval. It ends with BUS_HANG: a written divider takes effect (assumption 15: ahead
of the reset, the model's reading), the record retires, the fault is written and the automatic bus reset starts with no choice in between. -/
def Obligations.RequestDefersOrHangs : Prop :=
  (∀ (s : State) (w : BusWork) (c : Cycle) (t : Tag) (r : Request) (n : Station),
     s.engine.bus = .cycle w → w.owner = .queue t → w.cycle = some c → c.phase = .ending .defer →
     s.rq.records.find? (fun x => x.tag = t) = some r → r.body.station = some n →
     let p := s.profiles[n]
     let idled : State := { s with engine := { s.engine with bus := .idle, divider := s.cfg.divider } }
     (p.deferLimit.toNat ≤ r.defers + 1 →
       exec .cycleEnd s = .next
         ((idled.retired { r with defers := r.defers + 1 } .deferLimit 0).toRun (runAfterWork s.cfg.haltOnError s.engine.run))) ∧
     (r.defers + 1 < p.deferLimit.toNat →
       exec .cycleEnd s = .next
         (({ idled with
           rq := {
             records := s.rq.records.map fun x =>
               if x.tag = t then { r with defers := r.defers + 1, state := .backoff } else x
             backoff := s.rq.backoff.set n (some (8 * p.retryInterval.toNat)) } } : State).toRun
               (runAfterWork false s.engine.run)))) ∧
  (∀ (s : State) (w : BusWork) (c : Cycle) (t : Tag) (r : Request),
     s.engine.bus = .cycle w → w.owner = .queue t → w.cycle = some c → c.phase = .ending .busHang →
     s.rq.records.find? (fun x => x.tag = t) = some r →
     exec .cycleEnd s = .next
       (((({ s with
       engine := { s.engine with divider := s.cfg.divider }
       fault := faultAfter s.fault .busHang w.station } : State).retired r .busHang 0).busReset false).toRun
         (runAfterWork s.cfg.haltOnError s.engine.run)))

/-- The cycle of a channel word ends: an IN word's ACK goes on to its memory write, an OUT word's ACK ends the word, a DEFER or a
failure rolls back with the bus still held, PROTOCOL writes the fault record. A cycle that is not in its END period does not
end (assumption 2 for this clause: the model's choice). -/
def Obligations.ChannelCycleEnds : Prop :=
  (∀ (s : State) (w : BusWork) (c : Cycle) (ch : Channel) (k : Control) (v : Word) (o : CycleOutcome),
     s.engine.bus = .cycle w → w.owner = .channel ch → w.cycle = some c → c.phase = .ending o →
     (s.channels[ch]).state = .moving .inCycle → (s.channels[ch]).control = some k → (s.channels[ch]).keptCount = some v →
     let r := s.channels[ch]
     let idled : State := { s with engine := { s.engine with bus := .cycle { w with cycle := none }, divider := s.cfg.divider } }
     (k.out = false → ∀ data, o = .ack data →
       exec .cycleEnd s = .next
         { idled with channels := s.channels.set ch { r with state := .moving (.inWrite (data.getD 0)) } }) ∧
     (k.out = true → ∀ data, o = .ack data →
       exec .cycleEnd s = .next
         (({ s with
           engine := { s.engine with bus := .idle, divider := s.cfg.divider }
           channels := s.channels.set ch (r.afterAck k false)
           attn := s.attn.consumed k } : State).toRun
             (runAfterWork (s.cfg.haltOnError && (r.afterAck k false).state == .faulted) s.engine.run))) ∧
     (o = .defer →
       exec .cycleEnd s = .next
         { idled with channels := s.channels.set ch { r with state := .moving (.rollCount (.defer 0)) } }) ∧
     (∀ reason, o.reason = some reason →
       exec .cycleEnd s = .next
         { idled with
           channels := s.channels.set ch { r with state := .moving (.rollCount (.fault reason)) }
           fault := if o = .protocol then faultAfter s.fault .protocol w.station else s.fault })) ∧
  (∀ s : State,
     (∀ (w : BusWork) (c : Cycle), s.engine.bus = .cycle w → w.cycle = some c → ∀ o, c.phase ≠ .ending o) →
     exec .cycleEnd s = .next s)

/-! ### Resets and the interval -/

/-- BUS_RESET answers ALREADY in an interval; on an idle bus it starts one: timers stop, BACKOFF records wait, LOADING and
ACTIVE channels fault BUS_RESET, the Attention Controller is cleared. -/
def Obligations.BusResetOnIdleBus : Prop :=
  ∀ s : State, s.inInit = false →
    (∀ k f, s.engine.bus = .resetting k f → exec .busReset s = .next (s.answers .already)) ∧
    (s.engine.bus = .idle →
      exec .busReset s = .next
        (((s.busReset false).toRun (runAfterTrigger s.resetTriggers false s.engine.run)).answers .ok))

/-- BUS_RESET ends a request's work: cut before its END period the record retires BUS_RESET, in END with its decided outcome; a
decided DEFER is counted and retires DEFER_LIMIT or waits, with no timer running. An IDENTIFY cut before END takes nothing of
the answer; an answer decided in END leaves the same state in either order but for the ATN_STUCK fault it may write; which order
is a free value (assumption 10). A divider value written during the cycle waits for the interval's end (assumption 31: the
model's choice). -/
def Obligations.BusResetEndsCycles : Prop :=
  (∀ (s : State) (w : BusWork) (c : Cycle) (t : Tag) (r : Request),
     s.inInit = false → s.engine.bus = .cycle w → w.owner = .queue t → w.cycle = some c →
     s.rq.records.find? (fun x => x.tag = t) = some r →
     (c.phase.isEnding = false →
       exec .busReset s = .next
         ((((s.retired r .busReset 0).busReset (pins s).sdir).toRun (runAfterWork s.cfg.haltOnError s.engine.run)).answers .ok)) ∧
     (∀ o st data, c.phase = .ending o → o.retires = some (st, data) →
       exec .busReset s = .next
         ((((({ s with fault := o.faultRecord w.station s.fault } : State).retired r st data).busReset (pins s).sdir).toRun
           (runAfterWork (s.cfg.haltOnError && st != .ok || s.resetTriggers) s.engine.run)).answers .ok)) ∧
     (∀ n, c.phase = .ending .defer → r.body.station = some n →
       let d := { r with defers := r.defers + 1 }
       ((s.profiles[n]).deferLimit.toNat ≤ r.defers + 1 →
         exec .busReset s = .next
           ((((s.retired d .deferLimit 0).busReset (pins s).sdir).toRun
             (runAfterWork s.cfg.haltOnError s.engine.run)).answers .ok)) ∧
       (r.defers + 1 < (s.profiles[n]).deferLimit.toNat →
         exec .busReset s = .next
           (((({ s with
             rq := { s.rq with
               records := s.rq.records.map fun x => if x.tag = t then { d with state := .waiting } else x } } : State).busReset
                 (pins s).sdir).toRun (runAfterWork s.resetTriggers s.engine.run)).answers .ok)))) ∧
  (∀ (s : State) (w : BusWork) (c : Cycle), s.inInit = false → s.engine.bus = .cycle w → w.owner = .attention →
     w.cycle = some c →
     let after (f : Option FaultEntry) (free : Nat) : State :=
       ((({ s with fault := f, free := free } : State).busReset (pins s).sdir).toRun
         (runAfterWork s.resetTriggers s.engine.run)).answers .ok
     (c.phase.isEnding = false → exec .busReset s = .next (after s.fault s.free)) ∧
     (c.phase = .ending .identifyParity →
       exec .busReset s = .next (after (faultAfter s.fault .identifyParity none) s.free)) ∧
     (∀ a, c.phase = .ending (.answer a) →
       exec .busReset s = .next (after s.fault (s.free + 1)) ∨
       (s.attn.satn = true ∧ 3 ≤ s.attn.emptyAnswers ∧
         (∀ n : Station, (s.profiles[n]).enabled = true → a.getLsbD n.number = false) ∧
         exec .busReset s = .next (after (faultAfter s.fault .atnStuck none) (s.free + 1)))))

/-- BUS_RESET ends a channel's word: in its memory steps or its cycle the channel takes CUT and rolls back, or faults at once
with nothing kept; in the END period it takes the decided outcome, and faults BUS_RESET where it would work on; on its fault
path it goes on with that. That the second read of a count 0000h is such a memory step is assumption 16, that the fault of a
hang it rolls back from is written at this step is assumption 19: the model's readings. A divider value written during the cycle
waits for the interval's end (assumption 31: the model's choice). -/
def Obligations.BusResetCutsChannelWord : Prop :=
  ∀ (s : State) (w : BusWork) (ch : Channel) (x : WordStep),
    s.inInit = false → s.engine.bus = .cycle w → w.owner = .channel ch → (s.channels[ch]).state = .moving x →
    let r := s.channels[ch]
    (∀ (c : Cycle) (o : CycleOutcome) (k : Control) (v : Word), w.cycle = some c → c.phase = .ending o → r.control = some k →
      r.keptCount = some v →
      let after (y : ChannelRec) : State :=
        (((({ s with
          channels := s.channels.set ch y
          fault := o.faultRecord w.station s.fault } : State).busReset (pins s).sdir).toRun
            (runAfterWork (s.cfg.haltOnError && y.state == .faulted || s.resetTriggers) s.engine.run)).answers .ok)
      (∀ data, o = .ack data → exec .busReset s = .next
        (after (if k.out then r.afterAck k true else { r with state := .moving (.inWrite (data.getD 0)) }))) ∧
      (o = .defer → exec .busReset s = .next (after { r with state := .moving (.rollCount (.defer 0)) })) ∧
      (∀ reason, o.reason = some reason → exec .busReset s = .next
        (after { r with state := .moving (.rollCount (.fault reason)) }))) ∧
    ((∀ c, w.cycle = some c → c.phase.isEnding = false) →
      w.cycle.isSome = true ∨ x = .countRead ∨ x = .countWrite ∨ x = .zeroAddrRead ∨ x = .addrRead ∨ x = .addrWrite ∨
        x = .outRead ∨ (∃ d, x = .ask d) →
      (r.keptCount = none →
        exec .busReset s = .next
          (((({ s with channels := s.channels.set ch (r.ends .faulted .busReset) } : State).busReset (pins s).sdir).toRun
            (runAfterWork s.cfg.haltOnError s.engine.run)).answers .ok)) ∧
      (∀ v, r.keptCount = some v →
        exec .busReset s = .next
          (((({ s with
            channels := s.channels.set ch { r with state := .moving (.rollCount (.fault .busReset)) } } : State).busReset
              (pins s).sdir).toRun (runAfterWork s.resetTriggers s.engine.run)).answers .ok))) ∧
    (w.cycle = none → x = .rollCount (.fault .busHang) ∨ x = .rollAddr (.fault .busHang) →
      exec .busReset s = .next
        (((({ s with fault := faultAfter s.fault .busHang w.station } : State).busReset (pins s).sdir).toRun
          (runAfterWork s.resetTriggers s.engine.run)).answers .ok)) ∧
    (w.cycle = none → (∃ d, x = .inWrite d) ∨ (∃ e, (x = .rollCount e ∨ x = .rollAddr e) ∧ e ≠ .fault .busHang) →
      exec .busReset s = .next
        (((s.busReset (pins s).sdir).toRun (runAfterWork s.resetTriggers s.engine.run)).answers .ok))

/-- SRST# is deasserted after 32 periods, the 64th period ends the interval, and a written divider takes effect at the interval's
end and at a boundary with no cycle and no interval in flight, between the steps of a channel word too (assumption 15: the model's
reading). The two events of the interval stand for the periods up to them
(assumption 4); outside an interval and while RESET# is asserted they change nothing (assumption 2): the model's choice. -/
def Obligations.IntervalAndDividerEvents : Prop :=
  ∀ s : State,
    (∀ k f, s.engine.bus = .resetting k f → s.part ≠ .resetAsserted →
      (k ≤ 32 → exec .settlePeriodsBegin s = .next { s with engine := { s.engine with bus := .resetting 33 false } }) ∧
      (32 < k → exec .settlePeriodsBegin s = .next s) ∧
      exec .busResetIntervalEnd s = .next { s with engine := { s.engine with bus := .idle, divider := s.cfg.divider } }) ∧
    ((∀ k f, s.engine.bus ≠ .resetting k f) ∨ s.part = .resetAsserted →
      exec .settlePeriodsBegin s = .next s ∧ exec .busResetIntervalEnd s = .next s) ∧
    ((∀ k f, s.engine.bus ≠ .resetting k f) → (∀ w, s.engine.bus = .cycle w → w.cycle = none) →
      exec .dividerTakesEffect s = .next { s with engine := { s.engine with divider := s.cfg.divider } }) ∧
    ((∃ k f, s.engine.bus = .resetting k f) ∨ (∃ w, s.engine.bus = .cycle w ∧ w.cycle ≠ none) →
      exec .dividerTakesEffect s = .next s)

/-- SOFT_RESET leaves every block at its reset values but for the memory's words, in the first period of a bus reset interval;
the SATN# level and the model's own fields stay (assumptions 12 and 14: the model's choice). -/
def Obligations.SoftResetState : Prop :=
  ∀ s : State, s.inInit = false →
    exec .softReset s = .next
      { State.reset with
        engine := { State.reset.engine with bus := .resetting 1 (pins s).sdir }
        xmem := { State.reset.xmem with mem := s.xmem.mem }
        attn := { State.reset.attn with satn := s.attn.satn }
        port := { State.reset.port with readData := s.port.readData, rdyHeld := s.port.rdyHeld }
        free := s.free
        pending := s.pending }

/-- RESET# asserted for four CLKIN periods or more is a pin reset: every block at its reset values, the memory undefined (assumption
8: free values), the SATN# level kept (assumption 12: the model's choice), SAD driven at once (assumption 34: the model's choice);
a shorter one has no effect or is one (assumption 9: a free value). RESET# deasserted begins INIT; the interval ends before the sweep, whose end clears every word and leads to the
reset state. The end of the sweep stands for the periods up to it, the interval's end among them (assumption 4), and events
outside their states change nothing (assumption 2): the model's choice. -/
def Obligations.PinResetToResetState : Prop :=
  (∀ (s : State) (held : Nat),
     let resetAt (t : State) (m : Memory) : State :=
       { State.reset with
         part := .resetAsserted
         engine := { State.reset.engine with bus := .resetting 1 false }
         xmem := { State.reset.xmem with mem := m }
         attn := { State.reset.attn with satn := t.attn.satn }
         port := { State.reset.port with readData := t.port.readData, rdyHeld := t.port.rdyHeld }
         free := t.free + 1
         pending := t.pending }
     (s.part = .resetAsserted → exec (.resetAssert held) s = .next s) ∧
     (s.part ≠ .resetAsserted → 4 ≤ held →
       ∃ m, Memory.wf m ∧ exec (.resetAssert held) s = .next (resetAt s m) ∧ windowRead (resetAt s m) 0x01#5 = 0xD000#16) ∧
     (s.part ≠ .resetAsserted → held < 4 →
       exec (.resetAssert held) s = .next { s with free := s.free + 1 } ∨
       ∃ m, Memory.wf m ∧ exec (.resetAssert held) s = .next (resetAt { s with free := s.free + 1 } m))) ∧
  (∀ s : State,
     (s.part = .resetAsserted →
       exec .resetDeassert s = .next { s with part := .init 0, engine := { s.engine with bus := .resetting 1 false } }) ∧
     (s.part ≠ .resetAsserted → exec .resetDeassert s = .next s) ∧
     (∀ k, s.part = .init k →
       ((∀ j f, s.engine.bus ≠ .resetting j f) →
         exec .clearSweepEnd s = .next { s with part := .running, xmem := { s.xmem with mem := [] } }) ∧
       (∀ j f, s.engine.bus = .resetting j f →
         exec .clearSweepEnd s = .next
           { s with
             part := .running
             engine := { s.engine with bus := .idle, divider := s.cfg.divider }
             xmem := { s.xmem with mem := [] } })) ∧
     ((∀ k, s.part ≠ .init k) → exec .clearSweepEnd s = .next s) ∧
     (∀ held, s.part ≠ .resetAsserted → 4 ≤ held →
       let after : State :=
         { State.reset with
           attn := { State.reset.attn with satn := s.attn.satn }
           port := { State.reset.port with readData := s.port.readData, rdyHeld := s.port.rdyHeld }
           free := s.free + 1
           pending := s.pending }
       ∃ a b c, exec (.resetAssert held) s = .next a ∧ exec .resetDeassert a = .next b ∧ windowRead b 0x01#5 = 0xD000#16 ∧
         exec .clearSweepEnd b = .next after ∧ exec .busResetIntervalEnd b = .next c ∧ windowRead c 0x01#5 = 0xC000#16 ∧
         exec .clearSweepEnd c = .next after ∧ windowRead after 0x01#5 = 0x4000#16))

/-! ### Block channels -/

/-- CCB_LOAD: each slot goes to the channel next in the rotation; the channel's slots read its control, count and link words in this
order, and with the link read it checks them in the order of R127 and goes ACTIVE, ENDED(STOPPED) on a stop request, or FAULTED.
Alone at the memory three slots are enough. A channel that is not LOADING loads nothing (assumption 2), and the slots of the
event are its operand (assumption 7): the model's choice. -/
def Obligations.CcbLoadChecks : Prop :=
  ∀ (s : State) (c : Channel) (n : Nat),
    ((∃ l, (s.channels[c]).state = .loading l) →
      exec (.ccbLoad ⟨c, 0⟩) s = .next s ∧
      ∀ d : Channel, turnOf s d → exec (.ccbLoad ⟨c, n + 1⟩) s = exec (.ccbLoad ⟨c, n⟩) (channelAccess d s)) ∧
    ((s.channels[c]).state = .loading .control → turnOf s c → exec (.ccbLoad ⟨c, 1⟩) s = .next
      { s.served c with
        channels := s.channels.set c
          { s.channels[c] with state := .loading (.count (Memory.read s.xmem.mem (s.channels[c]).ccb.toNat)) } }) ∧
    (∀ w, (s.channels[c]).state = .loading (.count w) → turnOf s c → exec (.ccbLoad ⟨c, 1⟩) s = .next
      { s.served c with
        channels := s.channels.set c
          { s.channels[c] with state := .loading (.link w (Memory.read s.xmem.mem ((s.channels[c]).ccb.toNat + 1))) } }) ∧
    (∀ l, (s.channels[c]).state = .loading l →
      ((∃ w v, l = .link w v) ∧ turnOf s c) ∨ (aloneAtMemory s c ∧ 2 ≤ n) →
      let r := s.channels[c]
      let word (k : Nat) := Memory.read s.xmem.mem (r.ccb.toNat + k)
      let control := match l with | .control => word 0 | .count w => w | .link w _ => w
      let count := match l with | .control => word 1 | .count _ => word 1 | .link _ v => v
      let faults (reason : Reason) : State :=
        ({ s.served c with channels := s.channels.set c (r.ends .faulted reason) } : State).toRun
          (runAfterTrigger s.cfg.haltOnError s.busy s.engine.run)
      (control.extractLsb' 12 4 = 0#4 → exec (.ccbLoad ⟨c, n + 1⟩) s = .next (faults .badCcb)) ∧
      ∀ m : Station, (control.extractLsb' 12 4).toNat = m.number →
        ((s.profiles[m]).enabled = false → exec (.ccbLoad ⟨c, n + 1⟩) s = .next (faults .stationOff)) ∧
        ((s.profiles[m]).enabled = true →
          let routed := control.getLsbD 10 = false ∨ (s.alerts.config[m.source]).routing = .channel c
          (¬ routed ∨ count = 0 → exec (.ccbLoad ⟨c, n + 1⟩) s = .next (faults .badCcb)) ∧
          (routed → count ≠ 0 →
            let loaded : ChannelRec :=
              { r with
                control := some
                  { station := m, offset := control.extractLsb' 0 8, out := control.getLsbD 11, paced := control.getLsbD 10
                    hold := control.getLsbD 9, notify := control.getLsbD 8 }
                link := some (word 3) }
            exec (.ccbLoad ⟨c, n + 1⟩) s = .next
              { s.served c with
                channels := s.channels.set c
                  (if r.stopRequested then loaded.ends .ended .stopped
                  else { loaded with state := .active, keptCount := none, keptAddress := none }) }))) ∧
    ((∀ l, (s.channels[c]).state ≠ .loading l) → exec (.ccbLoad ⟨c, n⟩) s = .next s)

/-- The count step keeps the count and advances it, or faults BAD_CCB at 0000h with the address kept. The address step keeps the
address, advances it unless HOLD is set, faults ADDRESS above FFFh, and ends with the range check: RANGE, then STATION_OFF. Each
slot goes to the channel next in the rotation, so both can be parted between their two accesses; alone at the memory two
slots are enough. That the slots are an operand (assumption 7), and that a channel in no such step does nothing (assumption 2),
is the model's choice. -/
def Obligations.CountAndAddressSteps : Prop :=
  (∀ (s : State) (c : Channel) (n : Nat),
     ((s.channels[c]).state = .moving .countRead ∨ (s.channels[c]).state = .moving .countWrite ∨
         (s.channels[c]).state = .moving .zeroAddrRead →
       exec (.channelCountStep ⟨c, 0⟩) s = .next s ∧
       ∀ d : Channel, turnOf s d → exec (.channelCountStep ⟨c, n + 1⟩) s = exec (.channelCountStep ⟨c, n⟩) (channelAccess d s)) ∧
     ((s.channels[c]).state = .moving .addrRead ∨ (s.channels[c]).state = .moving .addrWrite →
       exec (.channelAddressStep ⟨c, 0⟩) s = .next s ∧
       ∀ d : Channel, turnOf s d → exec (.channelAddressStep ⟨c, n + 1⟩) s = exec (.channelAddressStep ⟨c, n⟩) (channelAccess d s))) ∧
  (∀ (s : State) (c : Channel) (k : Control) (n : Nat), (s.channels[c]).control = some k →
     let r := s.channels[c]
     let word (i : Nat) := Memory.read s.xmem.mem (r.ccb.toNat + i)
     let advanced (v : Word) : State :=
       { s.served c with
         xmem := { (s.served c).xmem with mem := Memory.write s.xmem.mem (r.ccb.toNat + 1) (v + 1) }
         channels := s.channels.set c { r with keptCount := some v, state := .moving .addrRead } }
     let zero : State :=
       { s.served c with
         channels := s.channels.set c
           { r with keptCount := some 0, keptAddress := some (word 2), state := .moving (.rollCount (.fault .badCcb)) } }
     (r.state = .moving .countRead → turnOf s c → exec (.channelCountStep ⟨c, 1⟩) s = .next
       { s.served c with
         channels := s.channels.set c
           { r with
             keptCount := some (word 1), state := .moving (if word 1 = 0 then .zeroAddrRead else .countWrite) } }) ∧
     (r.state = .moving .countRead → aloneAtMemory s c → 1 ≤ n → word 1 ≠ 0 →
       exec (.channelCountStep ⟨c, n + 1⟩) s = .next (advanced (word 1))) ∧
     (r.state = .moving .countRead → aloneAtMemory s c → 1 ≤ n → word 1 = 0 →
       exec (.channelCountStep ⟨c, n + 1⟩) s = .next zero) ∧
     (∀ v, r.keptCount = some v → r.state = .moving .countWrite → turnOf s c →
       exec (.channelCountStep ⟨c, n + 1⟩) s = .next (advanced v)) ∧
     (r.keptCount = some 0 → r.state = .moving .zeroAddrRead → turnOf s c →
       exec (.channelCountStep ⟨c, n + 1⟩) s = .next zero) ∧
     (r.state ≠ .moving .countRead → r.state ≠ .moving .countWrite → r.state ≠ .moving .zeroAddrRead →
       exec (.channelCountStep ⟨c, n⟩) s = .next s)) ∧
  (∀ (s : State) (c : Channel) (k : Control) (v : Word) (n : Nat), (s.channels[c]).control = some k →
     (s.channels[c]).keptCount = some v →
     let r := s.channels[c]
     let p := s.profiles[k.station]
     let checked (a : Word) : ChannelRec :=
       { r with
         keptAddress := some a
         state := .moving (
           if p.registerCount.toNat ≤ k.offset.toNat then .rollCount (.fault .range)
           else if p.enabled = false then .rollCount (.fault .stationOff)
           else if k.out then .outRead else .ask none) }
     let a := Memory.read s.xmem.mem (r.ccb.toNat + 2)
     (r.state = .moving .addrRead → turnOf s c →
       (0xFFF < a.toNat + (if k.hold then 0 else 1) →
         exec (.channelAddressStep ⟨c, n + 1⟩) s = .next
           { s.served c with
             channels := s.channels.set c { r with keptAddress := some a, state := .moving (.rollCount (.fault .address)) } }) ∧
       (a.toNat ≤ 0xFFF → k.hold = true →
         exec (.channelAddressStep ⟨c, n + 1⟩) s = .next { s.served c with channels := s.channels.set c (checked a) }) ∧
       (a.toNat < 0xFFF → k.hold = false →
         exec (.channelAddressStep ⟨c, 1⟩) s = .next
           { s.served c with
             channels := s.channels.set c { r with keptAddress := some a, state := .moving .addrWrite } } ∧
         (aloneAtMemory s c → 1 ≤ n →
           exec (.channelAddressStep ⟨c, n + 1⟩) s = .next
             { s.served c with
               xmem := { (s.served c).xmem with mem := Memory.write s.xmem.mem (r.ccb.toNat + 2) (a + 1) }
               channels := s.channels.set c (checked a) }))) ∧
     (∀ b, r.keptAddress = some b → k.hold = false → r.state = .moving .addrWrite → turnOf s c →
       exec (.channelAddressStep ⟨c, n + 1⟩) s = .next
         { s.served c with
           xmem := { (s.served c).xmem with mem := Memory.write s.xmem.mem (r.ccb.toNat + 2) (b + 1) }
           channels := s.channels.set c (checked b) }) ∧
     (r.state ≠ .moving .addrRead → r.state ≠ .moving .addrWrite → exec (.channelAddressStep ⟨c, n⟩) s = .next s))

/-- The data step begins the station cycle as a WRITE of the word at the data address, or a READ, with the profile values of that
moment. The IN word is written at the data address and its word ends as its ACK gives, whether or not a bus reset has ended
its bus work before. Each slot goes to the channel next in the rotation. That the slots are an operand (assumption 7), and that a
channel in no such step does nothing (assumption 2), is the model's choice. -/
def Obligations.DataStepAndInWrite : Prop :=
  (∀ (s : State) (c : Channel) (k : Control) (w : BusWork) (n : Nat), (s.channels[c]).control = some k → s.engine.bus = .cycle w →
     w.owner = .channel c →
     let r := s.channels[c]
     let p := s.profiles[k.station]
     let begins (t : State) (data : Word) : State :=
       { t with
         engine := { s.engine with
           bus := .cycle { w with
             data := data
             cycle := some
               { captured := some
                   { window := p.responseWindow, hold := p.holdLimit, spacing := p.pulseSpacing, parity := p.parityCheck }
                 phase := .select1, hold := 0 } } }
         channels := s.channels.set c { r with state := .moving .inCycle } }
     (∀ a, r.keptAddress = some a → r.state = .moving .outRead → turnOf s c →
       exec (.channelDataStep ⟨c, n + 1⟩) s = .next
         (begins (s.served c) (Memory.read s.xmem.mem (a.toNat + (if k.hold then 0 else 1))))) ∧
     (∀ data, r.state = .moving (.ask data) → exec (.channelDataStep ⟨c, n⟩) s = .next (begins s (data.getD 0))) ∧
     (r.state ≠ .moving .outRead → (∀ data, r.state ≠ .moving (.ask data)) → exec (.channelDataStep ⟨c, n⟩) s = .next s)) ∧
  (∀ (s : State) (c : Channel) (k : Control) (a data : Word) (n : Nat), (s.channels[c]).control = some k →
     (s.channels[c]).keptAddress = some a → (s.channels[c]).state = .moving (.inWrite data) → turnOf s c →
     let r := s.channels[c]
     let stored : Memory := Memory.write s.xmem.mem (a.toNat + (if k.hold then 0 else 1)) data
     let after (lost : Bool) : State :=
       { s.served c with
         xmem := { (s.served c).xmem with mem := stored }
         channels := s.channels.set c (r.afterAck k lost)
         attn := s.attn.consumed k }
     let trigger (lost : Bool) : Bool := s.cfg.haltOnError && (r.afterAck k lost).state == .faulted
     (∀ w, s.engine.bus = .cycle w → w.owner = .channel c →
       exec (.inDataWrite ⟨c, n + 1⟩) s = .next
         (({ after false with engine := { s.engine with bus := .idle } } : State).toRun
           (runAfterWork (trigger false) s.engine.run))) ∧
     ((∀ w, s.engine.bus = .cycle w → w.owner ≠ .channel c) →
       exec (.inDataWrite ⟨c, n + 1⟩) s = .next ((after true).toRun (runAfterTrigger (trigger true) s.busy s.engine.run)))) ∧
  (∀ (s : State) (c : Channel) (n : Nat),
     ((s.channels[c]).state = .moving .outRead →
       exec (.channelDataStep ⟨c, 0⟩) s = .next s ∧
       ∀ d : Channel, turnOf s d → exec (.channelDataStep ⟨c, n + 1⟩) s = exec (.channelDataStep ⟨c, n⟩) (channelAccess d s)) ∧
     ((∃ data, (s.channels[c]).state = .moving (.inWrite data)) →
       exec (.inDataWrite ⟨c, 0⟩) s = .next s ∧
       ∀ d : Channel, turnOf s d → exec (.inDataWrite ⟨c, n + 1⟩) s = exec (.inDataWrite ⟨c, n⟩) (channelAccess d s)) ∧
     ((∀ data, (s.channels[c]).state ≠ .moving (.inWrite data)) → exec (.inDataWrite ⟨c, n⟩) s = .next s))

/-- The rollback writes the kept count and the kept address back, and the channel faults with its reason or takes its DEFER: at
the limit it faults, below it the station's timer runs from the end of the cycle (assumption 17: the model's choice) and the
channel is ACTIVE or, on a stop request, ENDED. After a bus reset has ended the bus work a DEFER below the limit starts no timer
and faults BUS_RESET. Each slot goes to the channel next in the rotation; alone at the memory two slots are enough. That the
slots are an operand (assumption 7), and that a channel that does not roll back does nothing (assumption 2), is the model's
choice. -/
def Obligations.RollbackRestoresCcb : Prop :=
  (∀ (s : State) (c : Channel) (k : Control) (v : Word) (e : WordEnd) (w : BusWork) (n : Nat),
     (s.channels[c]).control = some k → (s.channels[c]).keptCount = some v → s.engine.bus = .cycle w → w.owner = .channel c →
     ((s.channels[c]).state = .moving (.rollCount e) ∨
       ((s.channels[c]).state = .moving (.rollAddr e) ∧ (s.channels[c]).keptAddress.isSome = true)) →
     (turnOf s c ∧ ((s.channels[c]).state = .moving (.rollAddr e) ∨ (s.channels[c]).keptAddress = none)) ∨
       (aloneAtMemory s c ∧ 1 ≤ n) →
     let r := s.channels[c]
     let p := s.profiles[k.station]
     let counted : Memory :=
       if r.state = .moving (.rollCount e) then Memory.write s.xmem.mem (r.ccb.toNat + 1) v else s.xmem.mem
     let back : Memory := match r.keptAddress with
       | some a => Memory.write counted (r.ccb.toNat + 2) a
       | none => counted
     let left (x : ChannelRec) : State :=
       { s.served c with
         engine := { s.engine with bus := .idle }
         xmem := { (s.served c).xmem with mem := back }
         channels := s.channels.set c x }
     (∀ reason, e = .fault reason → reason ≠ .busHang →
       exec (.channelRollback ⟨c, n + 1⟩) s = .next
         ((left (r.ends .faulted reason)).toRun (runAfterWork s.cfg.haltOnError s.engine.run))) ∧
     (e = .fault .busHang →
       exec (.channelRollback ⟨c, n + 1⟩) s = .next
         (((({ left (r.ends .faulted .busHang) with
           fault := faultAfter s.fault .busHang (some k.station) } : State).busReset false).toRun
             (runAfterWork s.cfg.haltOnError s.engine.run)))) ∧
     (∀ elapsed, e = .defer elapsed →
       let d := { r with defers := r.defers + 1 }
       (p.deferLimit.toNat ≤ r.defers + 1 →
         exec (.channelRollback ⟨c, n + 1⟩) s = .next
           ((left (d.ends .faulted .deferLimit)).toRun (runAfterWork s.cfg.haltOnError s.engine.run))) ∧
       (r.defers + 1 < p.deferLimit.toNat →
         exec (.channelRollback ⟨c, n + 1⟩) s = .next
           (({ left (if r.stopRequested then d.ends .ended .stopped
               else { d with state := .active, keptCount := none, keptAddress := none }) with
             rq := { s.rq with
               backoff := s.rq.backoff.set k.station (some (max 1 (8 * p.retryInterval.toNat - elapsed))) } } : State).toRun
                 (runAfterWork false s.engine.run))))) ∧
  (∀ (s : State) (c : Channel) (k : Control) (n : Nat), (s.channels[c]).control = some k →
     (∀ w, s.engine.bus = .cycle w → w.owner ≠ .channel c) →
     let r := s.channels[c]
     (∀ v e, r.keptCount = some v →
       r.state = .moving (.rollCount e) ∨ (r.state = .moving (.rollAddr e) ∧ r.keptAddress.isSome = true) →
       (turnOf s c ∧ (r.state = .moving (.rollAddr e) ∨ r.keptAddress = none)) ∨ (aloneAtMemory s c ∧ 1 ≤ n) →
       let counted : Memory :=
         if r.state = .moving (.rollCount e) then Memory.write s.xmem.mem (r.ccb.toNat + 1) v else s.xmem.mem
       let back : Memory := match r.keptAddress with
         | some a => Memory.write counted (r.ccb.toNat + 2) a
         | none => counted
       let last : ChannelRec := match e with
         | .fault reason => r.ends .faulted reason
         | .defer _ =>
           let d := { r with defers := r.defers + 1 }
           if (s.profiles[k.station]).deferLimit.toNat ≤ r.defers + 1 then d.ends .faulted .deferLimit
           else if r.stopRequested then d.ends .ended .stopped
           else d.ends .faulted .busReset
       exec (.channelRollback ⟨c, n + 1⟩) s = .next
         (({ s.served c with
           xmem := { (s.served c).xmem with mem := back }
           channels := s.channels.set c last } : State).toRun
             (runAfterTrigger (s.cfg.haltOnError && last.state == .faulted) s.busy s.engine.run)))) ∧
  (∀ (s : State) (c : Channel) (n : Nat),
     ((∃ e, (s.channels[c]).state = .moving (.rollCount e) ∨ (s.channels[c]).state = .moving (.rollAddr e)) →
       exec (.channelRollback ⟨c, 0⟩) s = .next s ∧
       ∀ d : Channel, turnOf s d → exec (.channelRollback ⟨c, n + 1⟩) s = exec (.channelRollback ⟨c, n⟩) (channelAccess d s)) ∧
     (∀ k v e, (s.channels[c]).control = some k → (s.channels[c]).keptCount = some v → (s.channels[c]).keptAddress.isSome = true →
       (s.channels[c]).state = .moving (.rollCount e) → turnOf s c →
       exec (.channelRollback ⟨c, 1⟩) s = .next
         { s.served c with
           xmem := { (s.served c).xmem with mem := Memory.write s.xmem.mem ((s.channels[c]).ccb.toNat + 1) v }
           channels := s.channels.set c { s.channels[c] with state := .moving (.rollAddr e) } }) ∧
     ((∀ e, (s.channels[c]).state ≠ .moving (.rollCount e)) → (∀ e, (s.channels[c]).state ≠ .moving (.rollAddr e)) →
       exec (.channelRollback ⟨c, n⟩) s = .next s))

/-! ### Laws -/

/-- The laws of the part hold after reset: of that moment (assumption 1) and of the memory's canonical form (assumption 11), which
are the model's choice, and of the laws the spec gives. -/
def Obligations.LawsHoldAtReset : Prop :=
  MemoryCanonical State.reset ∧ ProfilesLegal State.reset ∧ cyclesFit State.reset = true ∧ engineLegal State.reset = true ∧
    InServiceLaw State.reset ∧ FlagsFollowRouting State.reset ∧ TimersLegal State.reset ∧ QueueLaw State.reset ∧
    RequestStates State.reset ∧ ChannelsLegal State.reset

/-- Every step keeps the memory in its canonical form, which is the model's choice (assumption 11), and the profiles in the ranges
PROF_APPLY checks. -/
def Obligations.MemoryAndProfilesStayLegal : Prop :=
  ∀ s t : State, MemoryCanonical s → ProfilesLegal s → step s = .next t → MemoryCanonical t ∧ ProfilesLegal t

/-- Every step keeps the bus work of its owner's kind, its cycle in a phase and with an outcome of its kind. -/
def Obligations.CyclesStayFitting : Prop :=
  ∀ s t : State, cyclesFit s = true → step s = .next t → cyclesFit t = true

/-- Every step keeps the run state, the share counter and the interval legal: STOPPING only with bus work in flight, HALTED in
INIT. -/
def Obligations.EngineStaysLegal : Prop :=
  ∀ s t : State, engineLegal s = true → step s = .next t → engineLegal t = true

/-- Every step keeps each source in service on the line it is routed to, and one source of a priority in service on a line. -/
def Obligations.InServiceLawKept : Prop :=
  ∀ s t : State, InServiceLaw s → step s = .next t → InServiceLaw t

/-- Every step keeps pending flags with line-routed enabled stations, fresh flags with channel-routed enabled ones. -/
def Obligations.FlagsFollowRoutingKept : Prop :=
  ∀ s t : State, FlagsFollowRouting s → step s = .next t → FlagsFollowRouting t

/-- Every step keeps the timers and counters in their ranges. -/
def Obligations.TimersStayLegal : Prop :=
  ∀ s t : State, TimersLegal s → ProfilesLegal s → step s = .next t → TimersLegal t

/-- Every step keeps the queues' accounting: sizes, reservations and the tags in use. -/
def Obligations.QueueLawKept : Prop :=
  ∀ s t : State, QueueLaw s → step s = .next t → QueueLaw t

/-- Every step keeps the request records' states in agreement with the bus and the timers, and their order by station. -/
def Obligations.RequestStatesKept : Prop :=
  ∀ s t : State, RequestStates s → QueueLaw s → cyclesFit s = true → engineLegal s = true → step s = .next t → RequestStates t

/-- Every step keeps the channel records in agreement with their states, a rollback on its way to a DEFER or a fault reason, and
with the bus work of their words: a WRITE for OUT, a READ for IN, to the working station and offset. -/
def Obligations.ChannelsStayLegal : Prop :=
  ∀ s t : State, ChannelsLegal s → cyclesFit s = true → step s = .next t → ChannelsLegal t
end

