-- ==== Sys2Proof/Laws/State.lean ====
section
/-! SUPPORT. The fields of a state after each named update: one lemma for each field, each true by unfolding. -/

namespace Sys2Proof.Machine

/-! ### setResult -/

@[simp] theorem State.setResult_part (s : State) (r : Result) : (s.setResult r).part = s.part := rfl
@[simp] theorem State.setResult_port (s : State) (r : Result) : (s.setResult r).port = { s.port with result := r } := rfl
@[simp] theorem State.setResult_cfg (s : State) (r : Result) : (s.setResult r).cfg = s.cfg := rfl
@[simp] theorem State.setResult_profiles (s : State) (r : Result) : (s.setResult r).profiles = s.profiles := rfl
@[simp] theorem State.setResult_rq (s : State) (r : Result) : (s.setResult r).rq = s.rq := rfl
@[simp] theorem State.setResult_cq (s : State) (r : Result) : (s.setResult r).cq = s.cq := rfl
@[simp] theorem State.setResult_engine (s : State) (r : Result) : (s.setResult r).engine = s.engine := rfl
@[simp] theorem State.setResult_xmem (s : State) (r : Result) : (s.setResult r).xmem = s.xmem := rfl
@[simp] theorem State.setResult_channels (s : State) (r : Result) : (s.setResult r).channels = s.channels := rfl
@[simp] theorem State.setResult_attn (s : State) (r : Result) : (s.setResult r).attn = s.attn := rfl
@[simp] theorem State.setResult_alerts (s : State) (r : Result) : (s.setResult r).alerts = s.alerts := rfl
@[simp] theorem State.setResult_fault (s : State) (r : Result) : (s.setResult r).fault = s.fault := rfl
@[simp] theorem State.setResult_free (s : State) (r : Result) : (s.setResult r).free = s.free := rfl
@[simp] theorem State.setResult_pending (s : State) (r : Result) : (s.setResult r).pending = s.pending := rfl

/-! ### setArg2 -/

@[simp] theorem State.setArg2_part (s : State) (w : Word) : (s.setArg2 w).part = s.part := rfl
@[simp] theorem State.setArg2_port (s : State) (w : Word) : (s.setArg2 w).port = { s.port with arg2 := w } := rfl
@[simp] theorem State.setArg2_cfg (s : State) (w : Word) : (s.setArg2 w).cfg = s.cfg := rfl
@[simp] theorem State.setArg2_profiles (s : State) (w : Word) : (s.setArg2 w).profiles = s.profiles := rfl
@[simp] theorem State.setArg2_rq (s : State) (w : Word) : (s.setArg2 w).rq = s.rq := rfl
@[simp] theorem State.setArg2_cq (s : State) (w : Word) : (s.setArg2 w).cq = s.cq := rfl
@[simp] theorem State.setArg2_engine (s : State) (w : Word) : (s.setArg2 w).engine = s.engine := rfl
@[simp] theorem State.setArg2_xmem (s : State) (w : Word) : (s.setArg2 w).xmem = s.xmem := rfl
@[simp] theorem State.setArg2_channels (s : State) (w : Word) : (s.setArg2 w).channels = s.channels := rfl
@[simp] theorem State.setArg2_attn (s : State) (w : Word) : (s.setArg2 w).attn = s.attn := rfl
@[simp] theorem State.setArg2_alerts (s : State) (w : Word) : (s.setArg2 w).alerts = s.alerts := rfl
@[simp] theorem State.setArg2_fault (s : State) (w : Word) : (s.setArg2 w).fault = s.fault := rfl
@[simp] theorem State.setArg2_free (s : State) (w : Word) : (s.setArg2 w).free = s.free := rfl
@[simp] theorem State.setArg2_pending (s : State) (w : Word) : (s.setArg2 w).pending = s.pending := rfl

/-! ### setHeld -/

@[simp] theorem State.setHeld_part (s : State) (h : Bool) : (s.setHeld h).part = s.part := rfl
@[simp] theorem State.setHeld_port (s : State) (h : Bool) : (s.setHeld h).port = { s.port with rdyHeld := h } := rfl
@[simp] theorem State.setHeld_cfg (s : State) (h : Bool) : (s.setHeld h).cfg = s.cfg := rfl
@[simp] theorem State.setHeld_profiles (s : State) (h : Bool) : (s.setHeld h).profiles = s.profiles := rfl
@[simp] theorem State.setHeld_rq (s : State) (h : Bool) : (s.setHeld h).rq = s.rq := rfl
@[simp] theorem State.setHeld_cq (s : State) (h : Bool) : (s.setHeld h).cq = s.cq := rfl
@[simp] theorem State.setHeld_engine (s : State) (h : Bool) : (s.setHeld h).engine = s.engine := rfl
@[simp] theorem State.setHeld_xmem (s : State) (h : Bool) : (s.setHeld h).xmem = s.xmem := rfl
@[simp] theorem State.setHeld_channels (s : State) (h : Bool) : (s.setHeld h).channels = s.channels := rfl
@[simp] theorem State.setHeld_attn (s : State) (h : Bool) : (s.setHeld h).attn = s.attn := rfl
@[simp] theorem State.setHeld_alerts (s : State) (h : Bool) : (s.setHeld h).alerts = s.alerts := rfl
@[simp] theorem State.setHeld_fault (s : State) (h : Bool) : (s.setHeld h).fault = s.fault := rfl
@[simp] theorem State.setHeld_free (s : State) (h : Bool) : (s.setHeld h).free = s.free := rfl
@[simp] theorem State.setHeld_pending (s : State) (h : Bool) : (s.setHeld h).pending = s.pending := rfl

/-! ### putData -/

@[simp] theorem State.putData_part (s : State) (w : Word) : (s.putData w).part = s.part := rfl
@[simp] theorem State.putData_port (s : State) (w : Word) : (s.putData w).port = { s.port with readData := w } := rfl
@[simp] theorem State.putData_cfg (s : State) (w : Word) : (s.putData w).cfg = s.cfg := rfl
@[simp] theorem State.putData_profiles (s : State) (w : Word) : (s.putData w).profiles = s.profiles := rfl
@[simp] theorem State.putData_rq (s : State) (w : Word) : (s.putData w).rq = s.rq := rfl
@[simp] theorem State.putData_cq (s : State) (w : Word) : (s.putData w).cq = s.cq := rfl
@[simp] theorem State.putData_engine (s : State) (w : Word) : (s.putData w).engine = s.engine := rfl
@[simp] theorem State.putData_xmem (s : State) (w : Word) : (s.putData w).xmem = s.xmem := rfl
@[simp] theorem State.putData_channels (s : State) (w : Word) : (s.putData w).channels = s.channels := rfl
@[simp] theorem State.putData_attn (s : State) (w : Word) : (s.putData w).attn = s.attn := rfl
@[simp] theorem State.putData_alerts (s : State) (w : Word) : (s.putData w).alerts = s.alerts := rfl
@[simp] theorem State.putData_fault (s : State) (w : Word) : (s.putData w).fault = s.fault := rfl
@[simp] theorem State.putData_free (s : State) (w : Word) : (s.putData w).free = s.free := rfl
@[simp] theorem State.putData_pending (s : State) (w : Word) : (s.putData w).pending = s.pending := rfl

/-! ### setRun -/

@[simp] theorem State.setRun_part (s : State) (r : RunState) : (s.setRun r).part = s.part := rfl
@[simp] theorem State.setRun_port (s : State) (r : RunState) : (s.setRun r).port = s.port := rfl
@[simp] theorem State.setRun_cfg (s : State) (r : RunState) : (s.setRun r).cfg = s.cfg := rfl
@[simp] theorem State.setRun_profiles (s : State) (r : RunState) : (s.setRun r).profiles = s.profiles := rfl
@[simp] theorem State.setRun_rq (s : State) (r : RunState) : (s.setRun r).rq = s.rq := rfl
@[simp] theorem State.setRun_cq (s : State) (r : RunState) : (s.setRun r).cq = s.cq := rfl
@[simp] theorem State.setRun_engine (s : State) (r : RunState) : (s.setRun r).engine = { s.engine with run := r } := rfl
@[simp] theorem State.setRun_xmem (s : State) (r : RunState) : (s.setRun r).xmem = s.xmem := rfl
@[simp] theorem State.setRun_channels (s : State) (r : RunState) : (s.setRun r).channels = s.channels := rfl
@[simp] theorem State.setRun_attn (s : State) (r : RunState) : (s.setRun r).attn = s.attn := rfl
@[simp] theorem State.setRun_alerts (s : State) (r : RunState) : (s.setRun r).alerts = s.alerts := rfl
@[simp] theorem State.setRun_fault (s : State) (r : RunState) : (s.setRun r).fault = s.fault := rfl
@[simp] theorem State.setRun_free (s : State) (r : RunState) : (s.setRun r).free = s.free := rfl
@[simp] theorem State.setRun_pending (s : State) (r : RunState) : (s.setRun r).pending = s.pending := rfl

/-! ### setBus -/

@[simp] theorem State.setBus_part (s : State) (b : Bus) : (s.setBus b).part = s.part := rfl
@[simp] theorem State.setBus_port (s : State) (b : Bus) : (s.setBus b).port = s.port := rfl
@[simp] theorem State.setBus_cfg (s : State) (b : Bus) : (s.setBus b).cfg = s.cfg := rfl
@[simp] theorem State.setBus_profiles (s : State) (b : Bus) : (s.setBus b).profiles = s.profiles := rfl
@[simp] theorem State.setBus_rq (s : State) (b : Bus) : (s.setBus b).rq = s.rq := rfl
@[simp] theorem State.setBus_cq (s : State) (b : Bus) : (s.setBus b).cq = s.cq := rfl
@[simp] theorem State.setBus_engine (s : State) (b : Bus) : (s.setBus b).engine = { s.engine with bus := b } := rfl
@[simp] theorem State.setBus_xmem (s : State) (b : Bus) : (s.setBus b).xmem = s.xmem := rfl
@[simp] theorem State.setBus_channels (s : State) (b : Bus) : (s.setBus b).channels = s.channels := rfl
@[simp] theorem State.setBus_attn (s : State) (b : Bus) : (s.setBus b).attn = s.attn := rfl
@[simp] theorem State.setBus_alerts (s : State) (b : Bus) : (s.setBus b).alerts = s.alerts := rfl
@[simp] theorem State.setBus_fault (s : State) (b : Bus) : (s.setBus b).fault = s.fault := rfl
@[simp] theorem State.setBus_free (s : State) (b : Bus) : (s.setBus b).free = s.free := rfl
@[simp] theorem State.setBus_pending (s : State) (b : Bus) : (s.setBus b).pending = s.pending := rfl

/-! ### setChannel -/

@[simp] theorem State.setChannel_part (s : State) (c : Channel) (r : ChannelRec) : (s.setChannel c r).part = s.part := rfl
@[simp] theorem State.setChannel_port (s : State) (c : Channel) (r : ChannelRec) : (s.setChannel c r).port = s.port := rfl
@[simp] theorem State.setChannel_cfg (s : State) (c : Channel) (r : ChannelRec) : (s.setChannel c r).cfg = s.cfg := rfl
@[simp] theorem State.setChannel_profiles (s : State) (c : Channel) (r : ChannelRec) : (s.setChannel c r).profiles = s.profiles := rfl
@[simp] theorem State.setChannel_rq (s : State) (c : Channel) (r : ChannelRec) : (s.setChannel c r).rq = s.rq := rfl
@[simp] theorem State.setChannel_cq (s : State) (c : Channel) (r : ChannelRec) : (s.setChannel c r).cq = s.cq := rfl
@[simp] theorem State.setChannel_engine (s : State) (c : Channel) (r : ChannelRec) : (s.setChannel c r).engine = s.engine := rfl
@[simp] theorem State.setChannel_xmem (s : State) (c : Channel) (r : ChannelRec) : (s.setChannel c r).xmem = s.xmem := rfl
@[simp] theorem State.setChannel_channels (s : State) (c : Channel) (r : ChannelRec) : (s.setChannel c r).channels = s.channels.set c r := rfl
@[simp] theorem State.setChannel_attn (s : State) (c : Channel) (r : ChannelRec) : (s.setChannel c r).attn = s.attn := rfl
@[simp] theorem State.setChannel_alerts (s : State) (c : Channel) (r : ChannelRec) : (s.setChannel c r).alerts = s.alerts := rfl
@[simp] theorem State.setChannel_fault (s : State) (c : Channel) (r : ChannelRec) : (s.setChannel c r).fault = s.fault := rfl
@[simp] theorem State.setChannel_free (s : State) (c : Channel) (r : ChannelRec) : (s.setChannel c r).free = s.free := rfl
@[simp] theorem State.setChannel_pending (s : State) (c : Channel) (r : ChannelRec) : (s.setChannel c r).pending = s.pending := rfl

/-! ### setMem -/

@[simp] theorem State.setMem_part (s : State) (m : Memory) : (s.setMem m).part = s.part := rfl
@[simp] theorem State.setMem_port (s : State) (m : Memory) : (s.setMem m).port = s.port := rfl
@[simp] theorem State.setMem_cfg (s : State) (m : Memory) : (s.setMem m).cfg = s.cfg := rfl
@[simp] theorem State.setMem_profiles (s : State) (m : Memory) : (s.setMem m).profiles = s.profiles := rfl
@[simp] theorem State.setMem_rq (s : State) (m : Memory) : (s.setMem m).rq = s.rq := rfl
@[simp] theorem State.setMem_cq (s : State) (m : Memory) : (s.setMem m).cq = s.cq := rfl
@[simp] theorem State.setMem_engine (s : State) (m : Memory) : (s.setMem m).engine = s.engine := rfl
@[simp] theorem State.setMem_xmem (s : State) (m : Memory) : (s.setMem m).xmem = { s.xmem with mem := m } := rfl
@[simp] theorem State.setMem_channels (s : State) (m : Memory) : (s.setMem m).channels = s.channels := rfl
@[simp] theorem State.setMem_attn (s : State) (m : Memory) : (s.setMem m).attn = s.attn := rfl
@[simp] theorem State.setMem_alerts (s : State) (m : Memory) : (s.setMem m).alerts = s.alerts := rfl
@[simp] theorem State.setMem_fault (s : State) (m : Memory) : (s.setMem m).fault = s.fault := rfl
@[simp] theorem State.setMem_free (s : State) (m : Memory) : (s.setMem m).free = s.free := rfl
@[simp] theorem State.setMem_pending (s : State) (m : Memory) : (s.setMem m).pending = s.pending := rfl

/-! ### setRequests -/

@[simp] theorem State.setRequests_part (s : State) (l : List Request) : (s.setRequests l).part = s.part := rfl
@[simp] theorem State.setRequests_port (s : State) (l : List Request) : (s.setRequests l).port = s.port := rfl
@[simp] theorem State.setRequests_cfg (s : State) (l : List Request) : (s.setRequests l).cfg = s.cfg := rfl
@[simp] theorem State.setRequests_profiles (s : State) (l : List Request) : (s.setRequests l).profiles = s.profiles := rfl
@[simp] theorem State.setRequests_rq (s : State) (l : List Request) : (s.setRequests l).rq = { s.rq with records := l } := rfl
@[simp] theorem State.setRequests_cq (s : State) (l : List Request) : (s.setRequests l).cq = s.cq := rfl
@[simp] theorem State.setRequests_engine (s : State) (l : List Request) : (s.setRequests l).engine = s.engine := rfl
@[simp] theorem State.setRequests_xmem (s : State) (l : List Request) : (s.setRequests l).xmem = s.xmem := rfl
@[simp] theorem State.setRequests_channels (s : State) (l : List Request) : (s.setRequests l).channels = s.channels := rfl
@[simp] theorem State.setRequests_attn (s : State) (l : List Request) : (s.setRequests l).attn = s.attn := rfl
@[simp] theorem State.setRequests_alerts (s : State) (l : List Request) : (s.setRequests l).alerts = s.alerts := rfl
@[simp] theorem State.setRequests_fault (s : State) (l : List Request) : (s.setRequests l).fault = s.fault := rfl
@[simp] theorem State.setRequests_free (s : State) (l : List Request) : (s.setRequests l).free = s.free := rfl
@[simp] theorem State.setRequests_pending (s : State) (l : List Request) : (s.setRequests l).pending = s.pending := rfl

/-! ### setBackoff -/

@[simp] theorem State.setBackoff_part (s : State) (n : Station) (t : Option Nat) : (s.setBackoff n t).part = s.part := rfl
@[simp] theorem State.setBackoff_port (s : State) (n : Station) (t : Option Nat) : (s.setBackoff n t).port = s.port := rfl
@[simp] theorem State.setBackoff_cfg (s : State) (n : Station) (t : Option Nat) : (s.setBackoff n t).cfg = s.cfg := rfl
@[simp] theorem State.setBackoff_profiles (s : State) (n : Station) (t : Option Nat) : (s.setBackoff n t).profiles = s.profiles := rfl
@[simp] theorem State.setBackoff_rq (s : State) (n : Station) (t : Option Nat) : (s.setBackoff n t).rq = { s.rq with backoff := s.rq.backoff.set n t } := rfl
@[simp] theorem State.setBackoff_cq (s : State) (n : Station) (t : Option Nat) : (s.setBackoff n t).cq = s.cq := rfl
@[simp] theorem State.setBackoff_engine (s : State) (n : Station) (t : Option Nat) : (s.setBackoff n t).engine = s.engine := rfl
@[simp] theorem State.setBackoff_xmem (s : State) (n : Station) (t : Option Nat) : (s.setBackoff n t).xmem = s.xmem := rfl
@[simp] theorem State.setBackoff_channels (s : State) (n : Station) (t : Option Nat) : (s.setBackoff n t).channels = s.channels := rfl
@[simp] theorem State.setBackoff_attn (s : State) (n : Station) (t : Option Nat) : (s.setBackoff n t).attn = s.attn := rfl
@[simp] theorem State.setBackoff_alerts (s : State) (n : Station) (t : Option Nat) : (s.setBackoff n t).alerts = s.alerts := rfl
@[simp] theorem State.setBackoff_fault (s : State) (n : Station) (t : Option Nat) : (s.setBackoff n t).fault = s.fault := rfl
@[simp] theorem State.setBackoff_free (s : State) (n : Station) (t : Option Nat) : (s.setBackoff n t).free = s.free := rfl
@[simp] theorem State.setBackoff_pending (s : State) (n : Station) (t : Option Nat) : (s.setBackoff n t).pending = s.pending := rfl

/-! ### setStation -/

@[simp] theorem State.setStation_part (s : State) (n : Station) (a : StationAttention) : (s.setStation n a).part = s.part := rfl
@[simp] theorem State.setStation_port (s : State) (n : Station) (a : StationAttention) : (s.setStation n a).port = s.port := rfl
@[simp] theorem State.setStation_cfg (s : State) (n : Station) (a : StationAttention) : (s.setStation n a).cfg = s.cfg := rfl
@[simp] theorem State.setStation_profiles (s : State) (n : Station) (a : StationAttention) : (s.setStation n a).profiles = s.profiles := rfl
@[simp] theorem State.setStation_rq (s : State) (n : Station) (a : StationAttention) : (s.setStation n a).rq = s.rq := rfl
@[simp] theorem State.setStation_cq (s : State) (n : Station) (a : StationAttention) : (s.setStation n a).cq = s.cq := rfl
@[simp] theorem State.setStation_engine (s : State) (n : Station) (a : StationAttention) : (s.setStation n a).engine = s.engine := rfl
@[simp] theorem State.setStation_xmem (s : State) (n : Station) (a : StationAttention) : (s.setStation n a).xmem = s.xmem := rfl
@[simp] theorem State.setStation_channels (s : State) (n : Station) (a : StationAttention) : (s.setStation n a).channels = s.channels := rfl
@[simp] theorem State.setStation_attn (s : State) (n : Station) (a : StationAttention) : (s.setStation n a).attn = { s.attn with stations := s.attn.stations.set n a } := rfl
@[simp] theorem State.setStation_alerts (s : State) (n : Station) (a : StationAttention) : (s.setStation n a).alerts = s.alerts := rfl
@[simp] theorem State.setStation_fault (s : State) (n : Station) (a : StationAttention) : (s.setStation n a).fault = s.fault := rfl
@[simp] theorem State.setStation_free (s : State) (n : Station) (a : StationAttention) : (s.setStation n a).free = s.free := rfl
@[simp] theorem State.setStation_pending (s : State) (n : Station) (a : StationAttention) : (s.setStation n a).pending = s.pending := rfl

/-! ### nextFree -/

@[simp] theorem State.nextFree_part (s : State) : (s.nextFree).part = s.part := rfl
@[simp] theorem State.nextFree_port (s : State) : (s.nextFree).port = s.port := rfl
@[simp] theorem State.nextFree_cfg (s : State) : (s.nextFree).cfg = s.cfg := rfl
@[simp] theorem State.nextFree_profiles (s : State) : (s.nextFree).profiles = s.profiles := rfl
@[simp] theorem State.nextFree_rq (s : State) : (s.nextFree).rq = s.rq := rfl
@[simp] theorem State.nextFree_cq (s : State) : (s.nextFree).cq = s.cq := rfl
@[simp] theorem State.nextFree_engine (s : State) : (s.nextFree).engine = s.engine := rfl
@[simp] theorem State.nextFree_xmem (s : State) : (s.nextFree).xmem = s.xmem := rfl
@[simp] theorem State.nextFree_channels (s : State) : (s.nextFree).channels = s.channels := rfl
@[simp] theorem State.nextFree_attn (s : State) : (s.nextFree).attn = s.attn := rfl
@[simp] theorem State.nextFree_alerts (s : State) : (s.nextFree).alerts = s.alerts := rfl
@[simp] theorem State.nextFree_fault (s : State) : (s.nextFree).fault = s.fault := rfl
@[simp] theorem State.nextFree_free (s : State) : (s.nextFree).free = s.free + 1 := rfl
@[simp] theorem State.nextFree_pending (s : State) : (s.nextFree).pending = s.pending := rfl

/-! ### INIT after an update -/

@[simp] theorem State.setResult_inInit (s : State) (r : Result) : (s.setResult r).inInit = s.inInit := rfl
@[simp] theorem State.setArg2_inInit (s : State) (w : Word) : (s.setArg2 w).inInit = s.inInit := rfl
@[simp] theorem State.setHeld_inInit (s : State) (h : Bool) : (s.setHeld h).inInit = s.inInit := rfl
@[simp] theorem State.putData_inInit (s : State) (w : Word) : (s.putData w).inInit = s.inInit := rfl
@[simp] theorem State.setRun_inInit (s : State) (r : RunState) : (s.setRun r).inInit = s.inInit := rfl
@[simp] theorem State.setBus_inInit (s : State) (b : Bus) : (s.setBus b).inInit = s.inInit := rfl
@[simp] theorem State.setChannel_inInit (s : State) (c : Channel) (r : ChannelRec) : (s.setChannel c r).inInit = s.inInit := rfl
@[simp] theorem State.setMem_inInit (s : State) (m : Memory) : (s.setMem m).inInit = s.inInit := rfl
@[simp] theorem State.setRequests_inInit (s : State) (l : List Request) : (s.setRequests l).inInit = s.inInit := rfl
@[simp] theorem State.setBackoff_inInit (s : State) (n : Station) (t : Option Nat) : (s.setBackoff n t).inInit = s.inInit := rfl
@[simp] theorem State.setStation_inInit (s : State) (n : Station) (a : StationAttention) : (s.setStation n a).inInit = s.inInit := rfl
@[simp] theorem State.nextFree_inInit (s : State) : (s.nextFree).inInit = s.inInit := rfl

end Sys2Proof.Machine
end

