-- ==== Sys2Proof/Laws/Ops.lean ====
section
/-! SUPPORT. What the shared operations of Machine/Ops.lean leave as it is: one lemma for each field an operation does not change. -/

namespace Sys2Proof.Machine

/-! ### enterHalted -/

@[simp] theorem enterHalted_part (s : State) : (enterHalted s).part = s.part := rfl
@[simp] theorem enterHalted_port (s : State) : (enterHalted s).port = s.port := rfl
@[simp] theorem enterHalted_cfg (s : State) : (enterHalted s).cfg = s.cfg := rfl
@[simp] theorem enterHalted_profiles (s : State) : (enterHalted s).profiles = s.profiles := rfl
@[simp] theorem enterHalted_rq (s : State) : (enterHalted s).rq = s.rq := rfl
@[simp] theorem enterHalted_cq (s : State) : (enterHalted s).cq = s.cq := rfl
@[simp] theorem enterHalted_engine_share (s : State) : (enterHalted s).engine.share = s.engine.share := rfl
@[simp] theorem enterHalted_engine_pointer (s : State) : (enterHalted s).engine.pointer = s.engine.pointer := rfl
@[simp] theorem enterHalted_engine_divider (s : State) : (enterHalted s).engine.divider = s.engine.divider := rfl
@[simp] theorem enterHalted_engine_bus (s : State) : (enterHalted s).engine.bus = s.engine.bus := rfl
@[simp] theorem enterHalted_xmem (s : State) : (enterHalted s).xmem = s.xmem := rfl
@[simp] theorem enterHalted_channels (s : State) : (enterHalted s).channels = s.channels := rfl
@[simp] theorem enterHalted_attn (s : State) : (enterHalted s).attn = s.attn := rfl
@[simp] theorem enterHalted_alerts_config (s : State) : (enterHalted s).alerts.config = s.alerts.config := rfl
@[simp] theorem enterHalted_alerts_sense (s : State) : (enterHalted s).alerts.sense = s.alerts.sense := rfl
@[simp] theorem enterHalted_alerts_inService (s : State) : (enterHalted s).alerts.inService = s.alerts.inService := rfl
@[simp] theorem enterHalted_fault (s : State) : (enterHalted s).fault = s.fault := rfl
@[simp] theorem enterHalted_free (s : State) : (enterHalted s).free = s.free := rfl
@[simp] theorem enterHalted_pending (s : State) : (enterHalted s).pending = s.pending := rfl

/-! ### workEnded -/

@[simp] theorem workEnded_part (s : State) : (workEnded s).part = s.part := by
  unfold workEnded
  (repeat' split) <;> simp
@[simp] theorem workEnded_port (s : State) : (workEnded s).port = s.port := by
  unfold workEnded
  (repeat' split) <;> simp
@[simp] theorem workEnded_cfg (s : State) : (workEnded s).cfg = s.cfg := by
  unfold workEnded
  (repeat' split) <;> simp
@[simp] theorem workEnded_profiles (s : State) : (workEnded s).profiles = s.profiles := by
  unfold workEnded
  (repeat' split) <;> simp
@[simp] theorem workEnded_rq (s : State) : (workEnded s).rq = s.rq := by
  unfold workEnded
  (repeat' split) <;> simp
@[simp] theorem workEnded_cq (s : State) : (workEnded s).cq = s.cq := by
  unfold workEnded
  (repeat' split) <;> simp
@[simp] theorem workEnded_engine_share (s : State) : (workEnded s).engine.share = s.engine.share := by
  unfold workEnded
  (repeat' split) <;> simp
@[simp] theorem workEnded_engine_pointer (s : State) : (workEnded s).engine.pointer = s.engine.pointer := by
  unfold workEnded
  (repeat' split) <;> simp
@[simp] theorem workEnded_engine_divider (s : State) : (workEnded s).engine.divider = s.engine.divider := by
  unfold workEnded
  (repeat' split) <;> simp
@[simp] theorem workEnded_engine_bus (s : State) : (workEnded s).engine.bus = s.engine.bus := by
  unfold workEnded
  (repeat' split) <;> simp
@[simp] theorem workEnded_xmem (s : State) : (workEnded s).xmem = s.xmem := by
  unfold workEnded
  (repeat' split) <;> simp
@[simp] theorem workEnded_channels (s : State) : (workEnded s).channels = s.channels := by
  unfold workEnded
  (repeat' split) <;> simp
@[simp] theorem workEnded_attn (s : State) : (workEnded s).attn = s.attn := by
  unfold workEnded
  (repeat' split) <;> simp
@[simp] theorem workEnded_alerts_config (s : State) : (workEnded s).alerts.config = s.alerts.config := by
  unfold workEnded
  (repeat' split) <;> simp
@[simp] theorem workEnded_alerts_sense (s : State) : (workEnded s).alerts.sense = s.alerts.sense := by
  unfold workEnded
  (repeat' split) <;> simp
@[simp] theorem workEnded_alerts_inService (s : State) : (workEnded s).alerts.inService = s.alerts.inService := by
  unfold workEnded
  (repeat' split) <;> simp
@[simp] theorem workEnded_fault (s : State) : (workEnded s).fault = s.fault := by
  unfold workEnded
  (repeat' split) <;> simp
@[simp] theorem workEnded_free (s : State) : (workEnded s).free = s.free := by
  unfold workEnded
  (repeat' split) <;> simp
@[simp] theorem workEnded_pending (s : State) : (workEnded s).pending = s.pending := by
  unfold workEnded
  (repeat' split) <;> simp

/-! ### endBusWork -/

@[simp] theorem endBusWork_part (s : State) : (endBusWork s).part = s.part := by
  simp [endBusWork]
@[simp] theorem endBusWork_port (s : State) : (endBusWork s).port = s.port := by
  simp [endBusWork]
@[simp] theorem endBusWork_cfg (s : State) : (endBusWork s).cfg = s.cfg := by
  simp [endBusWork]
@[simp] theorem endBusWork_profiles (s : State) : (endBusWork s).profiles = s.profiles := by
  simp [endBusWork]
@[simp] theorem endBusWork_rq (s : State) : (endBusWork s).rq = s.rq := by
  simp [endBusWork]
@[simp] theorem endBusWork_cq (s : State) : (endBusWork s).cq = s.cq := by
  simp [endBusWork]
@[simp] theorem endBusWork_engine_share (s : State) : (endBusWork s).engine.share = s.engine.share := by
  simp [endBusWork]
@[simp] theorem endBusWork_engine_pointer (s : State) : (endBusWork s).engine.pointer = s.engine.pointer := by
  simp [endBusWork]
@[simp] theorem endBusWork_engine_divider (s : State) : (endBusWork s).engine.divider = s.engine.divider := by
  simp [endBusWork]
@[simp] theorem endBusWork_xmem (s : State) : (endBusWork s).xmem = s.xmem := by
  simp [endBusWork]
@[simp] theorem endBusWork_channels (s : State) : (endBusWork s).channels = s.channels := by
  simp [endBusWork]
@[simp] theorem endBusWork_attn (s : State) : (endBusWork s).attn = s.attn := by
  simp [endBusWork]
@[simp] theorem endBusWork_alerts_config (s : State) : (endBusWork s).alerts.config = s.alerts.config := by
  simp [endBusWork]
@[simp] theorem endBusWork_alerts_sense (s : State) : (endBusWork s).alerts.sense = s.alerts.sense := by
  simp [endBusWork]
@[simp] theorem endBusWork_alerts_inService (s : State) : (endBusWork s).alerts.inService = s.alerts.inService := by
  simp [endBusWork]
@[simp] theorem endBusWork_fault (s : State) : (endBusWork s).fault = s.fault := by
  simp [endBusWork]
@[simp] theorem endBusWork_free (s : State) : (endBusWork s).free = s.free := by
  simp [endBusWork]
@[simp] theorem endBusWork_pending (s : State) : (endBusWork s).pending = s.pending := by
  simp [endBusWork]

/-! ### haltTrigger -/

@[simp] theorem haltTrigger_part (s : State) : (haltTrigger s).part = s.part := by
  unfold haltTrigger
  (repeat' split) <;> simp
@[simp] theorem haltTrigger_port (s : State) : (haltTrigger s).port = s.port := by
  unfold haltTrigger
  (repeat' split) <;> simp
@[simp] theorem haltTrigger_cfg (s : State) : (haltTrigger s).cfg = s.cfg := by
  unfold haltTrigger
  (repeat' split) <;> simp
@[simp] theorem haltTrigger_profiles (s : State) : (haltTrigger s).profiles = s.profiles := by
  unfold haltTrigger
  (repeat' split) <;> simp
@[simp] theorem haltTrigger_rq (s : State) : (haltTrigger s).rq = s.rq := by
  unfold haltTrigger
  (repeat' split) <;> simp
@[simp] theorem haltTrigger_cq (s : State) : (haltTrigger s).cq = s.cq := by
  unfold haltTrigger
  (repeat' split) <;> simp
@[simp] theorem haltTrigger_engine_share (s : State) : (haltTrigger s).engine.share = s.engine.share := by
  unfold haltTrigger
  (repeat' split) <;> simp
@[simp] theorem haltTrigger_engine_pointer (s : State) : (haltTrigger s).engine.pointer = s.engine.pointer := by
  unfold haltTrigger
  (repeat' split) <;> simp
@[simp] theorem haltTrigger_engine_divider (s : State) : (haltTrigger s).engine.divider = s.engine.divider := by
  unfold haltTrigger
  (repeat' split) <;> simp
@[simp] theorem haltTrigger_engine_bus (s : State) : (haltTrigger s).engine.bus = s.engine.bus := by
  unfold haltTrigger
  (repeat' split) <;> simp
@[simp] theorem haltTrigger_xmem (s : State) : (haltTrigger s).xmem = s.xmem := by
  unfold haltTrigger
  (repeat' split) <;> simp
@[simp] theorem haltTrigger_channels (s : State) : (haltTrigger s).channels = s.channels := by
  unfold haltTrigger
  (repeat' split) <;> simp
@[simp] theorem haltTrigger_attn (s : State) : (haltTrigger s).attn = s.attn := by
  unfold haltTrigger
  (repeat' split) <;> simp
@[simp] theorem haltTrigger_alerts_config (s : State) : (haltTrigger s).alerts.config = s.alerts.config := by
  unfold haltTrigger
  (repeat' split) <;> simp
@[simp] theorem haltTrigger_alerts_sense (s : State) : (haltTrigger s).alerts.sense = s.alerts.sense := by
  unfold haltTrigger
  (repeat' split) <;> simp
@[simp] theorem haltTrigger_alerts_inService (s : State) : (haltTrigger s).alerts.inService = s.alerts.inService := by
  unfold haltTrigger
  (repeat' split) <;> simp
@[simp] theorem haltTrigger_fault (s : State) : (haltTrigger s).fault = s.fault := by
  unfold haltTrigger
  (repeat' split) <;> simp
@[simp] theorem haltTrigger_free (s : State) : (haltTrigger s).free = s.free := by
  unfold haltTrigger
  (repeat' split) <;> simp
@[simp] theorem haltTrigger_pending (s : State) : (haltTrigger s).pending = s.pending := by
  unfold haltTrigger
  (repeat' split) <;> simp

/-! ### writeFault -/

@[simp] theorem writeFault_part (k : FaultKind) (n : Option Station) (s : State) : (writeFault k n s).part = s.part := by
  unfold writeFault
  (repeat' split) <;> simp
@[simp] theorem writeFault_port (k : FaultKind) (n : Option Station) (s : State) : (writeFault k n s).port = s.port := by
  unfold writeFault
  (repeat' split) <;> simp
@[simp] theorem writeFault_cfg (k : FaultKind) (n : Option Station) (s : State) : (writeFault k n s).cfg = s.cfg := by
  unfold writeFault
  (repeat' split) <;> simp
@[simp] theorem writeFault_profiles (k : FaultKind) (n : Option Station) (s : State) : (writeFault k n s).profiles = s.profiles := by
  unfold writeFault
  (repeat' split) <;> simp
@[simp] theorem writeFault_rq (k : FaultKind) (n : Option Station) (s : State) : (writeFault k n s).rq = s.rq := by
  unfold writeFault
  (repeat' split) <;> simp
@[simp] theorem writeFault_cq (k : FaultKind) (n : Option Station) (s : State) : (writeFault k n s).cq = s.cq := by
  unfold writeFault
  (repeat' split) <;> simp
@[simp] theorem writeFault_engine_share (k : FaultKind) (n : Option Station) (s : State) : (writeFault k n s).engine.share = s.engine.share := by
  unfold writeFault
  (repeat' split) <;> simp
@[simp] theorem writeFault_engine_pointer (k : FaultKind) (n : Option Station) (s : State) : (writeFault k n s).engine.pointer = s.engine.pointer := by
  unfold writeFault
  (repeat' split) <;> simp
@[simp] theorem writeFault_engine_divider (k : FaultKind) (n : Option Station) (s : State) : (writeFault k n s).engine.divider = s.engine.divider := by
  unfold writeFault
  (repeat' split) <;> simp
@[simp] theorem writeFault_engine_bus (k : FaultKind) (n : Option Station) (s : State) : (writeFault k n s).engine.bus = s.engine.bus := by
  unfold writeFault
  (repeat' split) <;> simp
@[simp] theorem writeFault_engine_run (k : FaultKind) (n : Option Station) (s : State) : (writeFault k n s).engine.run = s.engine.run := by
  unfold writeFault
  (repeat' split) <;> simp
@[simp] theorem writeFault_xmem (k : FaultKind) (n : Option Station) (s : State) : (writeFault k n s).xmem = s.xmem := by
  unfold writeFault
  (repeat' split) <;> simp
@[simp] theorem writeFault_channels (k : FaultKind) (n : Option Station) (s : State) : (writeFault k n s).channels = s.channels := by
  unfold writeFault
  (repeat' split) <;> simp
@[simp] theorem writeFault_attn (k : FaultKind) (n : Option Station) (s : State) : (writeFault k n s).attn = s.attn := by
  unfold writeFault
  (repeat' split) <;> simp
@[simp] theorem writeFault_alerts_config (k : FaultKind) (n : Option Station) (s : State) : (writeFault k n s).alerts.config = s.alerts.config := by
  unfold writeFault
  (repeat' split) <;> simp
@[simp] theorem writeFault_alerts_sense (k : FaultKind) (n : Option Station) (s : State) : (writeFault k n s).alerts.sense = s.alerts.sense := by
  unfold writeFault
  (repeat' split) <;> simp
@[simp] theorem writeFault_alerts_inService (k : FaultKind) (n : Option Station) (s : State) : (writeFault k n s).alerts.inService = s.alerts.inService := by
  unfold writeFault
  (repeat' split) <;> simp
@[simp] theorem writeFault_alerts_haltedPending (k : FaultKind) (n : Option Station) (s : State) : (writeFault k n s).alerts.haltedPending = s.alerts.haltedPending := by
  unfold writeFault
  (repeat' split) <;> simp
@[simp] theorem writeFault_free (k : FaultKind) (n : Option Station) (s : State) : (writeFault k n s).free = s.free := by
  unfold writeFault
  (repeat' split) <;> simp
@[simp] theorem writeFault_pending (k : FaultKind) (n : Option Station) (s : State) : (writeFault k n s).pending = s.pending := by
  unfold writeFault
  (repeat' split) <;> simp

/-! ### silentSuccess -/

@[simp] theorem silentSuccess_part (r : Request) (s : State) : (silentSuccess r s).part = s.part := rfl
@[simp] theorem silentSuccess_port (r : Request) (s : State) : (silentSuccess r s).port = s.port := rfl
@[simp] theorem silentSuccess_cfg (r : Request) (s : State) : (silentSuccess r s).cfg = s.cfg := rfl
@[simp] theorem silentSuccess_profiles (r : Request) (s : State) : (silentSuccess r s).profiles = s.profiles := rfl
@[simp] theorem silentSuccess_engine_share (r : Request) (s : State) : (silentSuccess r s).engine.share = s.engine.share := rfl
@[simp] theorem silentSuccess_engine_pointer (r : Request) (s : State) : (silentSuccess r s).engine.pointer = s.engine.pointer := rfl
@[simp] theorem silentSuccess_engine_divider (r : Request) (s : State) : (silentSuccess r s).engine.divider = s.engine.divider := rfl
@[simp] theorem silentSuccess_engine_bus (r : Request) (s : State) : (silentSuccess r s).engine.bus = s.engine.bus := rfl
@[simp] theorem silentSuccess_engine_run (r : Request) (s : State) : (silentSuccess r s).engine.run = s.engine.run := rfl
@[simp] theorem silentSuccess_xmem (r : Request) (s : State) : (silentSuccess r s).xmem = s.xmem := rfl
@[simp] theorem silentSuccess_channels (r : Request) (s : State) : (silentSuccess r s).channels = s.channels := rfl
@[simp] theorem silentSuccess_attn (r : Request) (s : State) : (silentSuccess r s).attn = s.attn := rfl
@[simp] theorem silentSuccess_alerts_config (r : Request) (s : State) : (silentSuccess r s).alerts.config = s.alerts.config := rfl
@[simp] theorem silentSuccess_alerts_sense (r : Request) (s : State) : (silentSuccess r s).alerts.sense = s.alerts.sense := rfl
@[simp] theorem silentSuccess_alerts_inService (r : Request) (s : State) : (silentSuccess r s).alerts.inService = s.alerts.inService := rfl
@[simp] theorem silentSuccess_alerts_haltedPending (r : Request) (s : State) : (silentSuccess r s).alerts.haltedPending = s.alerts.haltedPending := rfl
@[simp] theorem silentSuccess_fault (r : Request) (s : State) : (silentSuccess r s).fault = s.fault := rfl
@[simp] theorem silentSuccess_free (r : Request) (s : State) : (silentSuccess r s).free = s.free := rfl
@[simp] theorem silentSuccess_pending (r : Request) (s : State) : (silentSuccess r s).pending = s.pending := rfl

/-! ### appendCompletion -/

@[simp] theorem appendCompletion_part (r : Request) (st : Status) (d : Word) (s : State) : (appendCompletion r st d s).part = s.part := rfl
@[simp] theorem appendCompletion_port (r : Request) (st : Status) (d : Word) (s : State) : (appendCompletion r st d s).port = s.port := rfl
@[simp] theorem appendCompletion_cfg (r : Request) (st : Status) (d : Word) (s : State) : (appendCompletion r st d s).cfg = s.cfg := rfl
@[simp] theorem appendCompletion_profiles (r : Request) (st : Status) (d : Word) (s : State) : (appendCompletion r st d s).profiles = s.profiles := rfl
@[simp] theorem appendCompletion_engine_share (r : Request) (st : Status) (d : Word) (s : State) : (appendCompletion r st d s).engine.share = s.engine.share := rfl
@[simp] theorem appendCompletion_engine_pointer (r : Request) (st : Status) (d : Word) (s : State) : (appendCompletion r st d s).engine.pointer = s.engine.pointer := rfl
@[simp] theorem appendCompletion_engine_divider (r : Request) (st : Status) (d : Word) (s : State) : (appendCompletion r st d s).engine.divider = s.engine.divider := rfl
@[simp] theorem appendCompletion_engine_bus (r : Request) (st : Status) (d : Word) (s : State) : (appendCompletion r st d s).engine.bus = s.engine.bus := rfl
@[simp] theorem appendCompletion_engine_run (r : Request) (st : Status) (d : Word) (s : State) : (appendCompletion r st d s).engine.run = s.engine.run := rfl
@[simp] theorem appendCompletion_xmem (r : Request) (st : Status) (d : Word) (s : State) : (appendCompletion r st d s).xmem = s.xmem := rfl
@[simp] theorem appendCompletion_channels (r : Request) (st : Status) (d : Word) (s : State) : (appendCompletion r st d s).channels = s.channels := rfl
@[simp] theorem appendCompletion_attn (r : Request) (st : Status) (d : Word) (s : State) : (appendCompletion r st d s).attn = s.attn := rfl
@[simp] theorem appendCompletion_alerts_config (r : Request) (st : Status) (d : Word) (s : State) : (appendCompletion r st d s).alerts.config = s.alerts.config := rfl
@[simp] theorem appendCompletion_alerts_sense (r : Request) (st : Status) (d : Word) (s : State) : (appendCompletion r st d s).alerts.sense = s.alerts.sense := rfl
@[simp] theorem appendCompletion_alerts_inService (r : Request) (st : Status) (d : Word) (s : State) : (appendCompletion r st d s).alerts.inService = s.alerts.inService := rfl
@[simp] theorem appendCompletion_alerts_haltedPending (r : Request) (st : Status) (d : Word) (s : State) : (appendCompletion r st d s).alerts.haltedPending = s.alerts.haltedPending := rfl
@[simp] theorem appendCompletion_fault (r : Request) (st : Status) (d : Word) (s : State) : (appendCompletion r st d s).fault = s.fault := rfl
@[simp] theorem appendCompletion_free (r : Request) (st : Status) (d : Word) (s : State) : (appendCompletion r st d s).free = s.free := rfl
@[simp] theorem appendCompletion_pending (r : Request) (st : Status) (d : Word) (s : State) : (appendCompletion r st d s).pending = s.pending := rfl

/-! ### retire -/

@[simp] theorem retire_part (r : Request) (st : Status) (d : Word) (s : State) : (retire r st d s).part = s.part := by
  unfold retire
  (repeat' split) <;> simp
@[simp] theorem retire_port (r : Request) (st : Status) (d : Word) (s : State) : (retire r st d s).port = s.port := by
  unfold retire
  (repeat' split) <;> simp
@[simp] theorem retire_cfg (r : Request) (st : Status) (d : Word) (s : State) : (retire r st d s).cfg = s.cfg := by
  unfold retire
  (repeat' split) <;> simp
@[simp] theorem retire_profiles (r : Request) (st : Status) (d : Word) (s : State) : (retire r st d s).profiles = s.profiles := by
  unfold retire
  (repeat' split) <;> simp
@[simp] theorem retire_engine_share (r : Request) (st : Status) (d : Word) (s : State) : (retire r st d s).engine.share = s.engine.share := by
  unfold retire
  (repeat' split) <;> simp
@[simp] theorem retire_engine_pointer (r : Request) (st : Status) (d : Word) (s : State) : (retire r st d s).engine.pointer = s.engine.pointer := by
  unfold retire
  (repeat' split) <;> simp
@[simp] theorem retire_engine_divider (r : Request) (st : Status) (d : Word) (s : State) : (retire r st d s).engine.divider = s.engine.divider := by
  unfold retire
  (repeat' split) <;> simp
@[simp] theorem retire_engine_bus (r : Request) (st : Status) (d : Word) (s : State) : (retire r st d s).engine.bus = s.engine.bus := by
  unfold retire
  (repeat' split) <;> simp
@[simp] theorem retire_xmem (r : Request) (st : Status) (d : Word) (s : State) : (retire r st d s).xmem = s.xmem := by
  unfold retire
  (repeat' split) <;> simp
@[simp] theorem retire_channels (r : Request) (st : Status) (d : Word) (s : State) : (retire r st d s).channels = s.channels := by
  unfold retire
  (repeat' split) <;> simp
@[simp] theorem retire_attn (r : Request) (st : Status) (d : Word) (s : State) : (retire r st d s).attn = s.attn := by
  unfold retire
  (repeat' split) <;> simp
@[simp] theorem retire_alerts_config (r : Request) (st : Status) (d : Word) (s : State) : (retire r st d s).alerts.config = s.alerts.config := by
  unfold retire
  (repeat' split) <;> simp
@[simp] theorem retire_alerts_sense (r : Request) (st : Status) (d : Word) (s : State) : (retire r st d s).alerts.sense = s.alerts.sense := by
  unfold retire
  (repeat' split) <;> simp
@[simp] theorem retire_alerts_inService (r : Request) (st : Status) (d : Word) (s : State) : (retire r st d s).alerts.inService = s.alerts.inService := by
  unfold retire
  (repeat' split) <;> simp
@[simp] theorem retire_fault (r : Request) (st : Status) (d : Word) (s : State) : (retire r st d s).fault = s.fault := by
  unfold retire
  (repeat' split) <;> simp
@[simp] theorem retire_free (r : Request) (st : Status) (d : Word) (s : State) : (retire r st d s).free = s.free := by
  unfold retire
  (repeat' split) <;> simp
@[simp] theorem retire_pending (r : Request) (st : Status) (d : Word) (s : State) : (retire r st d s).pending = s.pending := by
  unfold retire
  (repeat' split) <;> simp

/-! ### State.updateRequest -/

@[simp] theorem State.updateRequest_part (r : Request) (s : State) : (s.updateRequest r).part = s.part := rfl
@[simp] theorem State.updateRequest_port (r : Request) (s : State) : (s.updateRequest r).port = s.port := rfl
@[simp] theorem State.updateRequest_cfg (r : Request) (s : State) : (s.updateRequest r).cfg = s.cfg := rfl
@[simp] theorem State.updateRequest_profiles (r : Request) (s : State) : (s.updateRequest r).profiles = s.profiles := rfl
@[simp] theorem State.updateRequest_cq (r : Request) (s : State) : (s.updateRequest r).cq = s.cq := rfl
@[simp] theorem State.updateRequest_engine_share (r : Request) (s : State) : (s.updateRequest r).engine.share = s.engine.share := rfl
@[simp] theorem State.updateRequest_engine_pointer (r : Request) (s : State) : (s.updateRequest r).engine.pointer = s.engine.pointer := rfl
@[simp] theorem State.updateRequest_engine_divider (r : Request) (s : State) : (s.updateRequest r).engine.divider = s.engine.divider := rfl
@[simp] theorem State.updateRequest_engine_bus (r : Request) (s : State) : (s.updateRequest r).engine.bus = s.engine.bus := rfl
@[simp] theorem State.updateRequest_engine_run (r : Request) (s : State) : (s.updateRequest r).engine.run = s.engine.run := rfl
@[simp] theorem State.updateRequest_xmem (r : Request) (s : State) : (s.updateRequest r).xmem = s.xmem := rfl
@[simp] theorem State.updateRequest_channels (r : Request) (s : State) : (s.updateRequest r).channels = s.channels := rfl
@[simp] theorem State.updateRequest_attn (r : Request) (s : State) : (s.updateRequest r).attn = s.attn := rfl
@[simp] theorem State.updateRequest_alerts_config (r : Request) (s : State) : (s.updateRequest r).alerts.config = s.alerts.config := rfl
@[simp] theorem State.updateRequest_alerts_sense (r : Request) (s : State) : (s.updateRequest r).alerts.sense = s.alerts.sense := rfl
@[simp] theorem State.updateRequest_alerts_inService (r : Request) (s : State) : (s.updateRequest r).alerts.inService = s.alerts.inService := rfl
@[simp] theorem State.updateRequest_alerts_haltedPending (r : Request) (s : State) : (s.updateRequest r).alerts.haltedPending = s.alerts.haltedPending := rfl
@[simp] theorem State.updateRequest_fault (r : Request) (s : State) : (s.updateRequest r).fault = s.fault := rfl
@[simp] theorem State.updateRequest_free (r : Request) (s : State) : (s.updateRequest r).free = s.free := rfl
@[simp] theorem State.updateRequest_pending (r : Request) (s : State) : (s.updateRequest r).pending = s.pending := rfl

/-! ### deferRequest -/

@[simp] theorem deferRequest_part (r : Request) (n : Station) (s : State) : (deferRequest r n s).part = s.part := by
  unfold deferRequest
  dsimp only
  (repeat' split) <;> simp
@[simp] theorem deferRequest_port (r : Request) (n : Station) (s : State) : (deferRequest r n s).port = s.port := by
  unfold deferRequest
  dsimp only
  (repeat' split) <;> simp
@[simp] theorem deferRequest_cfg (r : Request) (n : Station) (s : State) : (deferRequest r n s).cfg = s.cfg := by
  unfold deferRequest
  dsimp only
  (repeat' split) <;> simp
@[simp] theorem deferRequest_profiles (r : Request) (n : Station) (s : State) : (deferRequest r n s).profiles = s.profiles := by
  unfold deferRequest
  dsimp only
  (repeat' split) <;> simp
@[simp] theorem deferRequest_engine_share (r : Request) (n : Station) (s : State) : (deferRequest r n s).engine.share = s.engine.share := by
  unfold deferRequest
  dsimp only
  (repeat' split) <;> simp
@[simp] theorem deferRequest_engine_pointer (r : Request) (n : Station) (s : State) : (deferRequest r n s).engine.pointer = s.engine.pointer := by
  unfold deferRequest
  dsimp only
  (repeat' split) <;> simp
@[simp] theorem deferRequest_engine_divider (r : Request) (n : Station) (s : State) : (deferRequest r n s).engine.divider = s.engine.divider := by
  unfold deferRequest
  dsimp only
  (repeat' split) <;> simp
@[simp] theorem deferRequest_engine_bus (r : Request) (n : Station) (s : State) : (deferRequest r n s).engine.bus = s.engine.bus := by
  unfold deferRequest
  dsimp only
  (repeat' split) <;> simp
@[simp] theorem deferRequest_xmem (r : Request) (n : Station) (s : State) : (deferRequest r n s).xmem = s.xmem := by
  unfold deferRequest
  dsimp only
  (repeat' split) <;> simp
@[simp] theorem deferRequest_channels (r : Request) (n : Station) (s : State) : (deferRequest r n s).channels = s.channels := by
  unfold deferRequest
  dsimp only
  (repeat' split) <;> simp
@[simp] theorem deferRequest_attn (r : Request) (n : Station) (s : State) : (deferRequest r n s).attn = s.attn := by
  unfold deferRequest
  dsimp only
  (repeat' split) <;> simp
@[simp] theorem deferRequest_alerts_config (r : Request) (n : Station) (s : State) : (deferRequest r n s).alerts.config = s.alerts.config := by
  unfold deferRequest
  dsimp only
  (repeat' split) <;> simp
@[simp] theorem deferRequest_alerts_sense (r : Request) (n : Station) (s : State) : (deferRequest r n s).alerts.sense = s.alerts.sense := by
  unfold deferRequest
  dsimp only
  (repeat' split) <;> simp
@[simp] theorem deferRequest_alerts_inService (r : Request) (n : Station) (s : State) : (deferRequest r n s).alerts.inService = s.alerts.inService := by
  unfold deferRequest
  dsimp only
  (repeat' split) <;> simp
@[simp] theorem deferRequest_fault (r : Request) (n : Station) (s : State) : (deferRequest r n s).fault = s.fault := by
  unfold deferRequest
  dsimp only
  (repeat' split) <;> simp
@[simp] theorem deferRequest_free (r : Request) (n : Station) (s : State) : (deferRequest r n s).free = s.free := by
  unfold deferRequest
  dsimp only
  (repeat' split) <;> simp
@[simp] theorem deferRequest_pending (r : Request) (n : Station) (s : State) : (deferRequest r n s).pending = s.pending := by
  unfold deferRequest
  dsimp only
  (repeat' split) <;> simp

/-! ### requestOutcome -/

@[simp] theorem requestOutcome_part (t : Tag) (o : CycleOutcome) (s : State) : (requestOutcome t o s).part = s.part := by
  unfold requestOutcome
  (repeat' split) <;> simp
@[simp] theorem requestOutcome_port (t : Tag) (o : CycleOutcome) (s : State) : (requestOutcome t o s).port = s.port := by
  unfold requestOutcome
  (repeat' split) <;> simp
@[simp] theorem requestOutcome_cfg (t : Tag) (o : CycleOutcome) (s : State) : (requestOutcome t o s).cfg = s.cfg := by
  unfold requestOutcome
  (repeat' split) <;> simp
@[simp] theorem requestOutcome_profiles (t : Tag) (o : CycleOutcome) (s : State) : (requestOutcome t o s).profiles = s.profiles := by
  unfold requestOutcome
  (repeat' split) <;> simp
@[simp] theorem requestOutcome_engine_share (t : Tag) (o : CycleOutcome) (s : State) : (requestOutcome t o s).engine.share = s.engine.share := by
  unfold requestOutcome
  (repeat' split) <;> simp
@[simp] theorem requestOutcome_engine_pointer (t : Tag) (o : CycleOutcome) (s : State) : (requestOutcome t o s).engine.pointer = s.engine.pointer := by
  unfold requestOutcome
  (repeat' split) <;> simp
@[simp] theorem requestOutcome_engine_divider (t : Tag) (o : CycleOutcome) (s : State) : (requestOutcome t o s).engine.divider = s.engine.divider := by
  unfold requestOutcome
  (repeat' split) <;> simp
@[simp] theorem requestOutcome_engine_bus (t : Tag) (o : CycleOutcome) (s : State) : (requestOutcome t o s).engine.bus = s.engine.bus := by
  unfold requestOutcome
  (repeat' split) <;> simp
@[simp] theorem requestOutcome_xmem (t : Tag) (o : CycleOutcome) (s : State) : (requestOutcome t o s).xmem = s.xmem := by
  unfold requestOutcome
  (repeat' split) <;> simp
@[simp] theorem requestOutcome_channels (t : Tag) (o : CycleOutcome) (s : State) : (requestOutcome t o s).channels = s.channels := by
  unfold requestOutcome
  (repeat' split) <;> simp
@[simp] theorem requestOutcome_attn (t : Tag) (o : CycleOutcome) (s : State) : (requestOutcome t o s).attn = s.attn := by
  unfold requestOutcome
  (repeat' split) <;> simp
@[simp] theorem requestOutcome_alerts_config (t : Tag) (o : CycleOutcome) (s : State) : (requestOutcome t o s).alerts.config = s.alerts.config := by
  unfold requestOutcome
  (repeat' split) <;> simp
@[simp] theorem requestOutcome_alerts_sense (t : Tag) (o : CycleOutcome) (s : State) : (requestOutcome t o s).alerts.sense = s.alerts.sense := by
  unfold requestOutcome
  (repeat' split) <;> simp
@[simp] theorem requestOutcome_alerts_inService (t : Tag) (o : CycleOutcome) (s : State) : (requestOutcome t o s).alerts.inService = s.alerts.inService := by
  unfold requestOutcome
  (repeat' split) <;> simp
@[simp] theorem requestOutcome_fault (t : Tag) (o : CycleOutcome) (s : State) : (requestOutcome t o s).fault = s.fault := by
  unfold requestOutcome
  (repeat' split) <;> simp
@[simp] theorem requestOutcome_free (t : Tag) (o : CycleOutcome) (s : State) : (requestOutcome t o s).free = s.free := by
  unfold requestOutcome
  (repeat' split) <;> simp
@[simp] theorem requestOutcome_pending (t : Tag) (o : CycleOutcome) (s : State) : (requestOutcome t o s).pending = s.pending := by
  unfold requestOutcome
  (repeat' split) <;> simp

end Sys2Proof.Machine
end

