-- ==== Sys2Proof/Laws/Attention.lean ====
section
/-! SUPPORT. What the operations of the Attention Controller leave as it is. -/

namespace Sys2Proof.Machine

/-! ### startIntervalTimer -/

@[simp] theorem startIntervalTimer_part (s : State) : (startIntervalTimer s).part = s.part := rfl
@[simp] theorem startIntervalTimer_port (s : State) : (startIntervalTimer s).port = s.port := rfl
@[simp] theorem startIntervalTimer_cfg (s : State) : (startIntervalTimer s).cfg = s.cfg := rfl
@[simp] theorem startIntervalTimer_profiles (s : State) : (startIntervalTimer s).profiles = s.profiles := rfl
@[simp] theorem startIntervalTimer_rq (s : State) : (startIntervalTimer s).rq = s.rq := rfl
@[simp] theorem startIntervalTimer_cq (s : State) : (startIntervalTimer s).cq = s.cq := rfl
@[simp] theorem startIntervalTimer_engine_share (s : State) : (startIntervalTimer s).engine.share = s.engine.share := rfl
@[simp] theorem startIntervalTimer_engine_pointer (s : State) : (startIntervalTimer s).engine.pointer = s.engine.pointer := rfl
@[simp] theorem startIntervalTimer_engine_divider (s : State) : (startIntervalTimer s).engine.divider = s.engine.divider := rfl
@[simp] theorem startIntervalTimer_engine_bus (s : State) : (startIntervalTimer s).engine.bus = s.engine.bus := rfl
@[simp] theorem startIntervalTimer_engine_run (s : State) : (startIntervalTimer s).engine.run = s.engine.run := rfl
@[simp] theorem startIntervalTimer_xmem (s : State) : (startIntervalTimer s).xmem = s.xmem := rfl
@[simp] theorem startIntervalTimer_channels (s : State) : (startIntervalTimer s).channels = s.channels := rfl
@[simp] theorem startIntervalTimer_alerts_config (s : State) : (startIntervalTimer s).alerts.config = s.alerts.config := rfl
@[simp] theorem startIntervalTimer_alerts_sense (s : State) : (startIntervalTimer s).alerts.sense = s.alerts.sense := rfl
@[simp] theorem startIntervalTimer_alerts_inService (s : State) : (startIntervalTimer s).alerts.inService = s.alerts.inService := rfl
@[simp] theorem startIntervalTimer_alerts_haltedPending (s : State) : (startIntervalTimer s).alerts.haltedPending = s.alerts.haltedPending := rfl
@[simp] theorem startIntervalTimer_fault (s : State) : (startIntervalTimer s).fault = s.fault := rfl
@[simp] theorem startIntervalTimer_free (s : State) : (startIntervalTimer s).free = s.free := rfl
@[simp] theorem startIntervalTimer_pending (s : State) : (startIntervalTimer s).pending = s.pending := rfl

/-! ### countEmptyAnswer -/

@[simp] theorem countEmptyAnswer_part (w : Word) (s : State) : (countEmptyAnswer w s).part = s.part := by
  unfold countEmptyAnswer
  (repeat' split) <;> simp
@[simp] theorem countEmptyAnswer_port (w : Word) (s : State) : (countEmptyAnswer w s).port = s.port := by
  unfold countEmptyAnswer
  (repeat' split) <;> simp
@[simp] theorem countEmptyAnswer_cfg (w : Word) (s : State) : (countEmptyAnswer w s).cfg = s.cfg := by
  unfold countEmptyAnswer
  (repeat' split) <;> simp
@[simp] theorem countEmptyAnswer_profiles (w : Word) (s : State) : (countEmptyAnswer w s).profiles = s.profiles := by
  unfold countEmptyAnswer
  (repeat' split) <;> simp
@[simp] theorem countEmptyAnswer_rq (w : Word) (s : State) : (countEmptyAnswer w s).rq = s.rq := by
  unfold countEmptyAnswer
  (repeat' split) <;> simp
@[simp] theorem countEmptyAnswer_cq (w : Word) (s : State) : (countEmptyAnswer w s).cq = s.cq := by
  unfold countEmptyAnswer
  (repeat' split) <;> simp
@[simp] theorem countEmptyAnswer_engine_share (w : Word) (s : State) : (countEmptyAnswer w s).engine.share = s.engine.share := by
  unfold countEmptyAnswer
  (repeat' split) <;> simp
@[simp] theorem countEmptyAnswer_engine_pointer (w : Word) (s : State) : (countEmptyAnswer w s).engine.pointer = s.engine.pointer := by
  unfold countEmptyAnswer
  (repeat' split) <;> simp
@[simp] theorem countEmptyAnswer_engine_divider (w : Word) (s : State) : (countEmptyAnswer w s).engine.divider = s.engine.divider := by
  unfold countEmptyAnswer
  (repeat' split) <;> simp
@[simp] theorem countEmptyAnswer_engine_bus (w : Word) (s : State) : (countEmptyAnswer w s).engine.bus = s.engine.bus := by
  unfold countEmptyAnswer
  (repeat' split) <;> simp
@[simp] theorem countEmptyAnswer_engine_run (w : Word) (s : State) : (countEmptyAnswer w s).engine.run = s.engine.run := by
  unfold countEmptyAnswer
  (repeat' split) <;> simp
@[simp] theorem countEmptyAnswer_xmem (w : Word) (s : State) : (countEmptyAnswer w s).xmem = s.xmem := by
  unfold countEmptyAnswer
  (repeat' split) <;> simp
@[simp] theorem countEmptyAnswer_channels (w : Word) (s : State) : (countEmptyAnswer w s).channels = s.channels := by
  unfold countEmptyAnswer
  (repeat' split) <;> simp
@[simp] theorem countEmptyAnswer_alerts_config (w : Word) (s : State) : (countEmptyAnswer w s).alerts.config = s.alerts.config := by
  unfold countEmptyAnswer
  (repeat' split) <;> simp
@[simp] theorem countEmptyAnswer_alerts_sense (w : Word) (s : State) : (countEmptyAnswer w s).alerts.sense = s.alerts.sense := by
  unfold countEmptyAnswer
  (repeat' split) <;> simp
@[simp] theorem countEmptyAnswer_alerts_inService (w : Word) (s : State) : (countEmptyAnswer w s).alerts.inService = s.alerts.inService := by
  unfold countEmptyAnswer
  (repeat' split) <;> simp
@[simp] theorem countEmptyAnswer_alerts_haltedPending (w : Word) (s : State) : (countEmptyAnswer w s).alerts.haltedPending = s.alerts.haltedPending := by
  unfold countEmptyAnswer
  (repeat' split) <;> simp
@[simp] theorem countEmptyAnswer_free (w : Word) (s : State) : (countEmptyAnswer w s).free = s.free := by
  unfold countEmptyAnswer
  (repeat' split) <;> simp
@[simp] theorem countEmptyAnswer_pending (w : Word) (s : State) : (countEmptyAnswer w s).pending = s.pending := by
  unfold countEmptyAnswer
  (repeat' split) <;> simp

/-! ### takeAnswer -/

@[simp] theorem takeAnswer_part (w : Word) (s : State) : (takeAnswer w s).part = s.part := by
  simp [takeAnswer]
@[simp] theorem takeAnswer_port (w : Word) (s : State) : (takeAnswer w s).port = s.port := by
  simp [takeAnswer]
@[simp] theorem takeAnswer_cfg (w : Word) (s : State) : (takeAnswer w s).cfg = s.cfg := by
  simp [takeAnswer]
@[simp] theorem takeAnswer_profiles (w : Word) (s : State) : (takeAnswer w s).profiles = s.profiles := by
  simp [takeAnswer]
@[simp] theorem takeAnswer_rq (w : Word) (s : State) : (takeAnswer w s).rq = s.rq := by
  simp [takeAnswer]
@[simp] theorem takeAnswer_cq (w : Word) (s : State) : (takeAnswer w s).cq = s.cq := by
  simp [takeAnswer]
@[simp] theorem takeAnswer_engine_share (w : Word) (s : State) : (takeAnswer w s).engine.share = s.engine.share := by
  simp [takeAnswer]
@[simp] theorem takeAnswer_engine_pointer (w : Word) (s : State) : (takeAnswer w s).engine.pointer = s.engine.pointer := by
  simp [takeAnswer]
@[simp] theorem takeAnswer_engine_divider (w : Word) (s : State) : (takeAnswer w s).engine.divider = s.engine.divider := by
  simp [takeAnswer]
@[simp] theorem takeAnswer_engine_bus (w : Word) (s : State) : (takeAnswer w s).engine.bus = s.engine.bus := by
  simp [takeAnswer]
@[simp] theorem takeAnswer_engine_run (w : Word) (s : State) : (takeAnswer w s).engine.run = s.engine.run := by
  simp [takeAnswer]
@[simp] theorem takeAnswer_xmem (w : Word) (s : State) : (takeAnswer w s).xmem = s.xmem := by
  simp [takeAnswer]
@[simp] theorem takeAnswer_channels (w : Word) (s : State) : (takeAnswer w s).channels = s.channels := by
  simp [takeAnswer]
@[simp] theorem takeAnswer_alerts_config (w : Word) (s : State) : (takeAnswer w s).alerts.config = s.alerts.config := by
  simp [takeAnswer]
@[simp] theorem takeAnswer_alerts_sense (w : Word) (s : State) : (takeAnswer w s).alerts.sense = s.alerts.sense := by
  simp [takeAnswer]
@[simp] theorem takeAnswer_alerts_inService (w : Word) (s : State) : (takeAnswer w s).alerts.inService = s.alerts.inService := by
  simp [takeAnswer]
@[simp] theorem takeAnswer_alerts_haltedPending (w : Word) (s : State) : (takeAnswer w s).alerts.haltedPending = s.alerts.haltedPending := by
  simp [takeAnswer]
@[simp] theorem takeAnswer_free (w : Word) (s : State) : (takeAnswer w s).free = s.free := by
  simp [takeAnswer]
@[simp] theorem takeAnswer_pending (w : Word) (s : State) : (takeAnswer w s).pending = s.pending := by
  simp [takeAnswer]

/-! ### takeIdentifyParity -/

@[simp] theorem takeIdentifyParity_part (s : State) : (takeIdentifyParity s).part = s.part := by
  simp [takeIdentifyParity]
@[simp] theorem takeIdentifyParity_port (s : State) : (takeIdentifyParity s).port = s.port := by
  simp [takeIdentifyParity]
@[simp] theorem takeIdentifyParity_cfg (s : State) : (takeIdentifyParity s).cfg = s.cfg := by
  simp [takeIdentifyParity]
@[simp] theorem takeIdentifyParity_profiles (s : State) : (takeIdentifyParity s).profiles = s.profiles := by
  simp [takeIdentifyParity]
@[simp] theorem takeIdentifyParity_rq (s : State) : (takeIdentifyParity s).rq = s.rq := by
  simp [takeIdentifyParity]
@[simp] theorem takeIdentifyParity_cq (s : State) : (takeIdentifyParity s).cq = s.cq := by
  simp [takeIdentifyParity]
@[simp] theorem takeIdentifyParity_engine_share (s : State) : (takeIdentifyParity s).engine.share = s.engine.share := by
  simp [takeIdentifyParity]
@[simp] theorem takeIdentifyParity_engine_pointer (s : State) : (takeIdentifyParity s).engine.pointer = s.engine.pointer := by
  simp [takeIdentifyParity]
@[simp] theorem takeIdentifyParity_engine_divider (s : State) : (takeIdentifyParity s).engine.divider = s.engine.divider := by
  simp [takeIdentifyParity]
@[simp] theorem takeIdentifyParity_engine_bus (s : State) : (takeIdentifyParity s).engine.bus = s.engine.bus := by
  simp [takeIdentifyParity]
@[simp] theorem takeIdentifyParity_engine_run (s : State) : (takeIdentifyParity s).engine.run = s.engine.run := by
  simp [takeIdentifyParity]
@[simp] theorem takeIdentifyParity_xmem (s : State) : (takeIdentifyParity s).xmem = s.xmem := by
  simp [takeIdentifyParity]
@[simp] theorem takeIdentifyParity_channels (s : State) : (takeIdentifyParity s).channels = s.channels := by
  simp [takeIdentifyParity]
@[simp] theorem takeIdentifyParity_alerts_config (s : State) : (takeIdentifyParity s).alerts.config = s.alerts.config := by
  simp [takeIdentifyParity]
@[simp] theorem takeIdentifyParity_alerts_sense (s : State) : (takeIdentifyParity s).alerts.sense = s.alerts.sense := by
  simp [takeIdentifyParity]
@[simp] theorem takeIdentifyParity_alerts_inService (s : State) : (takeIdentifyParity s).alerts.inService = s.alerts.inService := by
  simp [takeIdentifyParity]
@[simp] theorem takeIdentifyParity_alerts_haltedPending (s : State) : (takeIdentifyParity s).alerts.haltedPending = s.alerts.haltedPending := by
  simp [takeIdentifyParity]
@[simp] theorem takeIdentifyParity_free (s : State) : (takeIdentifyParity s).free = s.free := by
  simp [takeIdentifyParity]
@[simp] theorem takeIdentifyParity_pending (s : State) : (takeIdentifyParity s).pending = s.pending := by
  simp [takeIdentifyParity]

/-! ### attentionOutcome -/

@[simp] theorem attentionOutcome_part (o : CycleOutcome) (s : State) : (attentionOutcome o s).part = s.part := by
  unfold attentionOutcome
  (repeat' split) <;> simp
@[simp] theorem attentionOutcome_port (o : CycleOutcome) (s : State) : (attentionOutcome o s).port = s.port := by
  unfold attentionOutcome
  (repeat' split) <;> simp
@[simp] theorem attentionOutcome_cfg (o : CycleOutcome) (s : State) : (attentionOutcome o s).cfg = s.cfg := by
  unfold attentionOutcome
  (repeat' split) <;> simp
@[simp] theorem attentionOutcome_profiles (o : CycleOutcome) (s : State) : (attentionOutcome o s).profiles = s.profiles := by
  unfold attentionOutcome
  (repeat' split) <;> simp
@[simp] theorem attentionOutcome_rq (o : CycleOutcome) (s : State) : (attentionOutcome o s).rq = s.rq := by
  unfold attentionOutcome
  (repeat' split) <;> simp
@[simp] theorem attentionOutcome_cq (o : CycleOutcome) (s : State) : (attentionOutcome o s).cq = s.cq := by
  unfold attentionOutcome
  (repeat' split) <;> simp
@[simp] theorem attentionOutcome_engine_share (o : CycleOutcome) (s : State) : (attentionOutcome o s).engine.share = s.engine.share := by
  unfold attentionOutcome
  (repeat' split) <;> simp
@[simp] theorem attentionOutcome_engine_pointer (o : CycleOutcome) (s : State) : (attentionOutcome o s).engine.pointer = s.engine.pointer := by
  unfold attentionOutcome
  (repeat' split) <;> simp
@[simp] theorem attentionOutcome_engine_divider (o : CycleOutcome) (s : State) : (attentionOutcome o s).engine.divider = s.engine.divider := by
  unfold attentionOutcome
  (repeat' split) <;> simp
@[simp] theorem attentionOutcome_engine_bus (o : CycleOutcome) (s : State) : (attentionOutcome o s).engine.bus = s.engine.bus := by
  unfold attentionOutcome
  (repeat' split) <;> simp
@[simp] theorem attentionOutcome_engine_run (o : CycleOutcome) (s : State) : (attentionOutcome o s).engine.run = s.engine.run := by
  unfold attentionOutcome
  (repeat' split) <;> simp
@[simp] theorem attentionOutcome_xmem (o : CycleOutcome) (s : State) : (attentionOutcome o s).xmem = s.xmem := by
  unfold attentionOutcome
  (repeat' split) <;> simp
@[simp] theorem attentionOutcome_channels (o : CycleOutcome) (s : State) : (attentionOutcome o s).channels = s.channels := by
  unfold attentionOutcome
  (repeat' split) <;> simp
@[simp] theorem attentionOutcome_alerts_config (o : CycleOutcome) (s : State) : (attentionOutcome o s).alerts.config = s.alerts.config := by
  unfold attentionOutcome
  (repeat' split) <;> simp
@[simp] theorem attentionOutcome_alerts_sense (o : CycleOutcome) (s : State) : (attentionOutcome o s).alerts.sense = s.alerts.sense := by
  unfold attentionOutcome
  (repeat' split) <;> simp
@[simp] theorem attentionOutcome_alerts_inService (o : CycleOutcome) (s : State) : (attentionOutcome o s).alerts.inService = s.alerts.inService := by
  unfold attentionOutcome
  (repeat' split) <;> simp
@[simp] theorem attentionOutcome_alerts_haltedPending (o : CycleOutcome) (s : State) : (attentionOutcome o s).alerts.haltedPending = s.alerts.haltedPending := by
  unfold attentionOutcome
  (repeat' split) <;> simp
@[simp] theorem attentionOutcome_free (o : CycleOutcome) (s : State) : (attentionOutcome o s).free = s.free := by
  unfold attentionOutcome
  (repeat' split) <;> simp
@[simp] theorem attentionOutcome_pending (o : CycleOutcome) (s : State) : (attentionOutcome o s).pending = s.pending := by
  unfold attentionOutcome
  (repeat' split) <;> simp

/-! ### clearAttention -/

@[simp] theorem clearAttention_part (s : State) : (clearAttention s).part = s.part := rfl
@[simp] theorem clearAttention_port (s : State) : (clearAttention s).port = s.port := rfl
@[simp] theorem clearAttention_cfg (s : State) : (clearAttention s).cfg = s.cfg := rfl
@[simp] theorem clearAttention_profiles (s : State) : (clearAttention s).profiles = s.profiles := rfl
@[simp] theorem clearAttention_rq (s : State) : (clearAttention s).rq = s.rq := rfl
@[simp] theorem clearAttention_cq (s : State) : (clearAttention s).cq = s.cq := rfl
@[simp] theorem clearAttention_engine_share (s : State) : (clearAttention s).engine.share = s.engine.share := rfl
@[simp] theorem clearAttention_engine_pointer (s : State) : (clearAttention s).engine.pointer = s.engine.pointer := rfl
@[simp] theorem clearAttention_engine_divider (s : State) : (clearAttention s).engine.divider = s.engine.divider := rfl
@[simp] theorem clearAttention_engine_bus (s : State) : (clearAttention s).engine.bus = s.engine.bus := rfl
@[simp] theorem clearAttention_engine_run (s : State) : (clearAttention s).engine.run = s.engine.run := rfl
@[simp] theorem clearAttention_xmem (s : State) : (clearAttention s).xmem = s.xmem := rfl
@[simp] theorem clearAttention_channels (s : State) : (clearAttention s).channels = s.channels := rfl
@[simp] theorem clearAttention_alerts_config (s : State) : (clearAttention s).alerts.config = s.alerts.config := rfl
@[simp] theorem clearAttention_alerts_sense (s : State) : (clearAttention s).alerts.sense = s.alerts.sense := rfl
@[simp] theorem clearAttention_alerts_inService (s : State) : (clearAttention s).alerts.inService = s.alerts.inService := rfl
@[simp] theorem clearAttention_alerts_haltedPending (s : State) : (clearAttention s).alerts.haltedPending = s.alerts.haltedPending := rfl
@[simp] theorem clearAttention_fault (s : State) : (clearAttention s).fault = s.fault := rfl
@[simp] theorem clearAttention_free (s : State) : (clearAttention s).free = s.free := rfl
@[simp] theorem clearAttention_pending (s : State) : (clearAttention s).pending = s.pending := rfl

/-! ### identifyMeetsReset -/

@[simp] theorem identifyMeetsReset_part (o : CycleOutcome) (s : State) : (identifyMeetsReset o s).part = s.part := by
  unfold identifyMeetsReset
  (repeat' split) <;> simp
@[simp] theorem identifyMeetsReset_port (o : CycleOutcome) (s : State) : (identifyMeetsReset o s).port = s.port := by
  unfold identifyMeetsReset
  (repeat' split) <;> simp
@[simp] theorem identifyMeetsReset_cfg (o : CycleOutcome) (s : State) : (identifyMeetsReset o s).cfg = s.cfg := by
  unfold identifyMeetsReset
  (repeat' split) <;> simp
@[simp] theorem identifyMeetsReset_profiles (o : CycleOutcome) (s : State) : (identifyMeetsReset o s).profiles = s.profiles := by
  unfold identifyMeetsReset
  (repeat' split) <;> simp
@[simp] theorem identifyMeetsReset_rq (o : CycleOutcome) (s : State) : (identifyMeetsReset o s).rq = s.rq := by
  unfold identifyMeetsReset
  (repeat' split) <;> simp
@[simp] theorem identifyMeetsReset_cq (o : CycleOutcome) (s : State) : (identifyMeetsReset o s).cq = s.cq := by
  unfold identifyMeetsReset
  (repeat' split) <;> simp
@[simp] theorem identifyMeetsReset_engine_share (o : CycleOutcome) (s : State) : (identifyMeetsReset o s).engine.share = s.engine.share := by
  unfold identifyMeetsReset
  (repeat' split) <;> simp
@[simp] theorem identifyMeetsReset_engine_pointer (o : CycleOutcome) (s : State) : (identifyMeetsReset o s).engine.pointer = s.engine.pointer := by
  unfold identifyMeetsReset
  (repeat' split) <;> simp
@[simp] theorem identifyMeetsReset_engine_divider (o : CycleOutcome) (s : State) : (identifyMeetsReset o s).engine.divider = s.engine.divider := by
  unfold identifyMeetsReset
  (repeat' split) <;> simp
@[simp] theorem identifyMeetsReset_engine_bus (o : CycleOutcome) (s : State) : (identifyMeetsReset o s).engine.bus = s.engine.bus := by
  unfold identifyMeetsReset
  (repeat' split) <;> simp
@[simp] theorem identifyMeetsReset_engine_run (o : CycleOutcome) (s : State) : (identifyMeetsReset o s).engine.run = s.engine.run := by
  unfold identifyMeetsReset
  (repeat' split) <;> simp
@[simp] theorem identifyMeetsReset_xmem (o : CycleOutcome) (s : State) : (identifyMeetsReset o s).xmem = s.xmem := by
  unfold identifyMeetsReset
  (repeat' split) <;> simp
@[simp] theorem identifyMeetsReset_channels (o : CycleOutcome) (s : State) : (identifyMeetsReset o s).channels = s.channels := by
  unfold identifyMeetsReset
  (repeat' split) <;> simp
@[simp] theorem identifyMeetsReset_alerts_config (o : CycleOutcome) (s : State) : (identifyMeetsReset o s).alerts.config = s.alerts.config := by
  unfold identifyMeetsReset
  (repeat' split) <;> simp
@[simp] theorem identifyMeetsReset_alerts_sense (o : CycleOutcome) (s : State) : (identifyMeetsReset o s).alerts.sense = s.alerts.sense := by
  unfold identifyMeetsReset
  (repeat' split) <;> simp
@[simp] theorem identifyMeetsReset_alerts_inService (o : CycleOutcome) (s : State) : (identifyMeetsReset o s).alerts.inService = s.alerts.inService := by
  unfold identifyMeetsReset
  (repeat' split) <;> simp
@[simp] theorem identifyMeetsReset_alerts_haltedPending (o : CycleOutcome) (s : State) : (identifyMeetsReset o s).alerts.haltedPending = s.alerts.haltedPending := by
  unfold identifyMeetsReset
  (repeat' split) <;> simp
@[simp] theorem identifyMeetsReset_pending (o : CycleOutcome) (s : State) : (identifyMeetsReset o s).pending = s.pending := by
  unfold identifyMeetsReset
  (repeat' split) <;> simp

end Sys2Proof.Machine
end

