-- ==== Sys2Proof/Laws/Channels.lean ====
section
/-! SUPPORT. What the operations of the block channels and of the start of a bus reset leave as it is. -/

namespace Sys2Proof.Machine

/-! ### releaseBus -/

@[simp] theorem releaseBus_part (c : Channel) (s : State) : (releaseBus c s).part = s.part := by
  unfold releaseBus
  (repeat' split) <;> simp
@[simp] theorem releaseBus_port (c : Channel) (s : State) : (releaseBus c s).port = s.port := by
  unfold releaseBus
  (repeat' split) <;> simp
@[simp] theorem releaseBus_cfg (c : Channel) (s : State) : (releaseBus c s).cfg = s.cfg := by
  unfold releaseBus
  (repeat' split) <;> simp
@[simp] theorem releaseBus_profiles (c : Channel) (s : State) : (releaseBus c s).profiles = s.profiles := by
  unfold releaseBus
  (repeat' split) <;> simp
@[simp] theorem releaseBus_rq (c : Channel) (s : State) : (releaseBus c s).rq = s.rq := by
  unfold releaseBus
  (repeat' split) <;> simp
@[simp] theorem releaseBus_cq (c : Channel) (s : State) : (releaseBus c s).cq = s.cq := by
  unfold releaseBus
  (repeat' split) <;> simp
@[simp] theorem releaseBus_engine_share (c : Channel) (s : State) : (releaseBus c s).engine.share = s.engine.share := by
  unfold releaseBus
  (repeat' split) <;> simp
@[simp] theorem releaseBus_engine_pointer (c : Channel) (s : State) : (releaseBus c s).engine.pointer = s.engine.pointer := by
  unfold releaseBus
  (repeat' split) <;> simp
@[simp] theorem releaseBus_engine_divider (c : Channel) (s : State) : (releaseBus c s).engine.divider = s.engine.divider := by
  unfold releaseBus
  (repeat' split) <;> simp
@[simp] theorem releaseBus_xmem (c : Channel) (s : State) : (releaseBus c s).xmem = s.xmem := by
  unfold releaseBus
  (repeat' split) <;> simp
@[simp] theorem releaseBus_channels (c : Channel) (s : State) : (releaseBus c s).channels = s.channels := by
  unfold releaseBus
  (repeat' split) <;> simp
@[simp] theorem releaseBus_attn (c : Channel) (s : State) : (releaseBus c s).attn = s.attn := by
  unfold releaseBus
  (repeat' split) <;> simp
@[simp] theorem releaseBus_alerts_config (c : Channel) (s : State) : (releaseBus c s).alerts.config = s.alerts.config := by
  unfold releaseBus
  (repeat' split) <;> simp
@[simp] theorem releaseBus_alerts_sense (c : Channel) (s : State) : (releaseBus c s).alerts.sense = s.alerts.sense := by
  unfold releaseBus
  (repeat' split) <;> simp
@[simp] theorem releaseBus_alerts_inService (c : Channel) (s : State) : (releaseBus c s).alerts.inService = s.alerts.inService := by
  unfold releaseBus
  (repeat' split) <;> simp
@[simp] theorem releaseBus_fault (c : Channel) (s : State) : (releaseBus c s).fault = s.fault := by
  unfold releaseBus
  (repeat' split) <;> simp
@[simp] theorem releaseBus_free (c : Channel) (s : State) : (releaseBus c s).free = s.free := by
  unfold releaseBus
  (repeat' split) <;> simp
@[simp] theorem releaseBus_pending (c : Channel) (s : State) : (releaseBus c s).pending = s.pending := by
  unfold releaseBus
  (repeat' split) <;> simp

/-! ### enterEnded -/

@[simp] theorem enterEnded_part (c : Channel) (x : Reason) (s : State) : (enterEnded c x s).part = s.part := rfl
@[simp] theorem enterEnded_port (c : Channel) (x : Reason) (s : State) : (enterEnded c x s).port = s.port := rfl
@[simp] theorem enterEnded_cfg (c : Channel) (x : Reason) (s : State) : (enterEnded c x s).cfg = s.cfg := rfl
@[simp] theorem enterEnded_profiles (c : Channel) (x : Reason) (s : State) : (enterEnded c x s).profiles = s.profiles := rfl
@[simp] theorem enterEnded_rq (c : Channel) (x : Reason) (s : State) : (enterEnded c x s).rq = s.rq := rfl
@[simp] theorem enterEnded_cq (c : Channel) (x : Reason) (s : State) : (enterEnded c x s).cq = s.cq := rfl
@[simp] theorem enterEnded_engine_share (c : Channel) (x : Reason) (s : State) : (enterEnded c x s).engine.share = s.engine.share := rfl
@[simp] theorem enterEnded_engine_pointer (c : Channel) (x : Reason) (s : State) : (enterEnded c x s).engine.pointer = s.engine.pointer := rfl
@[simp] theorem enterEnded_engine_divider (c : Channel) (x : Reason) (s : State) : (enterEnded c x s).engine.divider = s.engine.divider := rfl
@[simp] theorem enterEnded_engine_bus (c : Channel) (x : Reason) (s : State) : (enterEnded c x s).engine.bus = s.engine.bus := rfl
@[simp] theorem enterEnded_engine_run (c : Channel) (x : Reason) (s : State) : (enterEnded c x s).engine.run = s.engine.run := rfl
@[simp] theorem enterEnded_xmem (c : Channel) (x : Reason) (s : State) : (enterEnded c x s).xmem = s.xmem := rfl
@[simp] theorem enterEnded_attn (c : Channel) (x : Reason) (s : State) : (enterEnded c x s).attn = s.attn := rfl
@[simp] theorem enterEnded_alerts_config (c : Channel) (x : Reason) (s : State) : (enterEnded c x s).alerts.config = s.alerts.config := rfl
@[simp] theorem enterEnded_alerts_sense (c : Channel) (x : Reason) (s : State) : (enterEnded c x s).alerts.sense = s.alerts.sense := rfl
@[simp] theorem enterEnded_alerts_inService (c : Channel) (x : Reason) (s : State) : (enterEnded c x s).alerts.inService = s.alerts.inService := rfl
@[simp] theorem enterEnded_alerts_haltedPending (c : Channel) (x : Reason) (s : State) : (enterEnded c x s).alerts.haltedPending = s.alerts.haltedPending := rfl
@[simp] theorem enterEnded_fault (c : Channel) (x : Reason) (s : State) : (enterEnded c x s).fault = s.fault := rfl
@[simp] theorem enterEnded_free (c : Channel) (x : Reason) (s : State) : (enterEnded c x s).free = s.free := rfl
@[simp] theorem enterEnded_pending (c : Channel) (x : Reason) (s : State) : (enterEnded c x s).pending = s.pending := rfl

/-! ### enterFaulted -/

@[simp] theorem enterFaulted_part (c : Channel) (x : Reason) (s : State) : (enterFaulted c x s).part = s.part := by
  simp [enterFaulted]
@[simp] theorem enterFaulted_port (c : Channel) (x : Reason) (s : State) : (enterFaulted c x s).port = s.port := by
  simp [enterFaulted]
@[simp] theorem enterFaulted_cfg (c : Channel) (x : Reason) (s : State) : (enterFaulted c x s).cfg = s.cfg := by
  simp [enterFaulted]
@[simp] theorem enterFaulted_profiles (c : Channel) (x : Reason) (s : State) : (enterFaulted c x s).profiles = s.profiles := by
  simp [enterFaulted]
@[simp] theorem enterFaulted_rq (c : Channel) (x : Reason) (s : State) : (enterFaulted c x s).rq = s.rq := by
  simp [enterFaulted]
@[simp] theorem enterFaulted_cq (c : Channel) (x : Reason) (s : State) : (enterFaulted c x s).cq = s.cq := by
  simp [enterFaulted]
@[simp] theorem enterFaulted_engine_share (c : Channel) (x : Reason) (s : State) : (enterFaulted c x s).engine.share = s.engine.share := by
  simp [enterFaulted]
@[simp] theorem enterFaulted_engine_pointer (c : Channel) (x : Reason) (s : State) : (enterFaulted c x s).engine.pointer = s.engine.pointer := by
  simp [enterFaulted]
@[simp] theorem enterFaulted_engine_divider (c : Channel) (x : Reason) (s : State) : (enterFaulted c x s).engine.divider = s.engine.divider := by
  simp [enterFaulted]
@[simp] theorem enterFaulted_engine_bus (c : Channel) (x : Reason) (s : State) : (enterFaulted c x s).engine.bus = s.engine.bus := by
  simp [enterFaulted]
@[simp] theorem enterFaulted_xmem (c : Channel) (x : Reason) (s : State) : (enterFaulted c x s).xmem = s.xmem := by
  simp [enterFaulted]
@[simp] theorem enterFaulted_attn (c : Channel) (x : Reason) (s : State) : (enterFaulted c x s).attn = s.attn := by
  simp [enterFaulted]
@[simp] theorem enterFaulted_alerts_config (c : Channel) (x : Reason) (s : State) : (enterFaulted c x s).alerts.config = s.alerts.config := by
  simp [enterFaulted]
@[simp] theorem enterFaulted_alerts_sense (c : Channel) (x : Reason) (s : State) : (enterFaulted c x s).alerts.sense = s.alerts.sense := by
  simp [enterFaulted]
@[simp] theorem enterFaulted_alerts_inService (c : Channel) (x : Reason) (s : State) : (enterFaulted c x s).alerts.inService = s.alerts.inService := by
  simp [enterFaulted]
@[simp] theorem enterFaulted_fault (c : Channel) (x : Reason) (s : State) : (enterFaulted c x s).fault = s.fault := by
  simp [enterFaulted]
@[simp] theorem enterFaulted_free (c : Channel) (x : Reason) (s : State) : (enterFaulted c x s).free = s.free := by
  simp [enterFaulted]
@[simp] theorem enterFaulted_pending (c : Channel) (x : Reason) (s : State) : (enterFaulted c x s).pending = s.pending := by
  simp [enterFaulted]

/-! ### resumeOrStop -/

@[simp] theorem resumeOrStop_part (c : Channel) (l : Bool) (s : State) : (resumeOrStop c l s).part = s.part := by
  unfold resumeOrStop
  dsimp only
  (repeat' split) <;> simp
@[simp] theorem resumeOrStop_port (c : Channel) (l : Bool) (s : State) : (resumeOrStop c l s).port = s.port := by
  unfold resumeOrStop
  dsimp only
  (repeat' split) <;> simp
@[simp] theorem resumeOrStop_cfg (c : Channel) (l : Bool) (s : State) : (resumeOrStop c l s).cfg = s.cfg := by
  unfold resumeOrStop
  dsimp only
  (repeat' split) <;> simp
@[simp] theorem resumeOrStop_profiles (c : Channel) (l : Bool) (s : State) : (resumeOrStop c l s).profiles = s.profiles := by
  unfold resumeOrStop
  dsimp only
  (repeat' split) <;> simp
@[simp] theorem resumeOrStop_rq (c : Channel) (l : Bool) (s : State) : (resumeOrStop c l s).rq = s.rq := by
  unfold resumeOrStop
  dsimp only
  (repeat' split) <;> simp
@[simp] theorem resumeOrStop_cq (c : Channel) (l : Bool) (s : State) : (resumeOrStop c l s).cq = s.cq := by
  unfold resumeOrStop
  dsimp only
  (repeat' split) <;> simp
@[simp] theorem resumeOrStop_engine_share (c : Channel) (l : Bool) (s : State) : (resumeOrStop c l s).engine.share = s.engine.share := by
  unfold resumeOrStop
  dsimp only
  (repeat' split) <;> simp
@[simp] theorem resumeOrStop_engine_pointer (c : Channel) (l : Bool) (s : State) : (resumeOrStop c l s).engine.pointer = s.engine.pointer := by
  unfold resumeOrStop
  dsimp only
  (repeat' split) <;> simp
@[simp] theorem resumeOrStop_engine_divider (c : Channel) (l : Bool) (s : State) : (resumeOrStop c l s).engine.divider = s.engine.divider := by
  unfold resumeOrStop
  dsimp only
  (repeat' split) <;> simp
@[simp] theorem resumeOrStop_engine_bus (c : Channel) (l : Bool) (s : State) : (resumeOrStop c l s).engine.bus = s.engine.bus := by
  unfold resumeOrStop
  dsimp only
  (repeat' split) <;> simp
@[simp] theorem resumeOrStop_xmem (c : Channel) (l : Bool) (s : State) : (resumeOrStop c l s).xmem = s.xmem := by
  unfold resumeOrStop
  dsimp only
  (repeat' split) <;> simp
@[simp] theorem resumeOrStop_attn (c : Channel) (l : Bool) (s : State) : (resumeOrStop c l s).attn = s.attn := by
  unfold resumeOrStop
  dsimp only
  (repeat' split) <;> simp
@[simp] theorem resumeOrStop_alerts_config (c : Channel) (l : Bool) (s : State) : (resumeOrStop c l s).alerts.config = s.alerts.config := by
  unfold resumeOrStop
  dsimp only
  (repeat' split) <;> simp
@[simp] theorem resumeOrStop_alerts_sense (c : Channel) (l : Bool) (s : State) : (resumeOrStop c l s).alerts.sense = s.alerts.sense := by
  unfold resumeOrStop
  dsimp only
  (repeat' split) <;> simp
@[simp] theorem resumeOrStop_alerts_inService (c : Channel) (l : Bool) (s : State) : (resumeOrStop c l s).alerts.inService = s.alerts.inService := by
  unfold resumeOrStop
  dsimp only
  (repeat' split) <;> simp
@[simp] theorem resumeOrStop_fault (c : Channel) (l : Bool) (s : State) : (resumeOrStop c l s).fault = s.fault := by
  unfold resumeOrStop
  dsimp only
  (repeat' split) <;> simp
@[simp] theorem resumeOrStop_free (c : Channel) (l : Bool) (s : State) : (resumeOrStop c l s).free = s.free := by
  unfold resumeOrStop
  dsimp only
  (repeat' split) <;> simp
@[simp] theorem resumeOrStop_pending (c : Channel) (l : Bool) (s : State) : (resumeOrStop c l s).pending = s.pending := by
  unfold resumeOrStop
  dsimp only
  (repeat' split) <;> simp

/-! ### handleChannelDefer -/

@[simp] theorem handleChannelDefer_part (c : Channel) (e : Nat) (l : Bool) (s : State) : (handleChannelDefer c e l s).part = s.part := by
  unfold handleChannelDefer
  dsimp only
  (repeat' split) <;> simp
@[simp] theorem handleChannelDefer_port (c : Channel) (e : Nat) (l : Bool) (s : State) : (handleChannelDefer c e l s).port = s.port := by
  unfold handleChannelDefer
  dsimp only
  (repeat' split) <;> simp
@[simp] theorem handleChannelDefer_cfg (c : Channel) (e : Nat) (l : Bool) (s : State) : (handleChannelDefer c e l s).cfg = s.cfg := by
  unfold handleChannelDefer
  dsimp only
  (repeat' split) <;> simp
@[simp] theorem handleChannelDefer_profiles (c : Channel) (e : Nat) (l : Bool) (s : State) : (handleChannelDefer c e l s).profiles = s.profiles := by
  unfold handleChannelDefer
  dsimp only
  (repeat' split) <;> simp
@[simp] theorem handleChannelDefer_cq (c : Channel) (e : Nat) (l : Bool) (s : State) : (handleChannelDefer c e l s).cq = s.cq := by
  unfold handleChannelDefer
  dsimp only
  (repeat' split) <;> simp
@[simp] theorem handleChannelDefer_engine_share (c : Channel) (e : Nat) (l : Bool) (s : State) : (handleChannelDefer c e l s).engine.share = s.engine.share := by
  unfold handleChannelDefer
  dsimp only
  (repeat' split) <;> simp
@[simp] theorem handleChannelDefer_engine_pointer (c : Channel) (e : Nat) (l : Bool) (s : State) : (handleChannelDefer c e l s).engine.pointer = s.engine.pointer := by
  unfold handleChannelDefer
  dsimp only
  (repeat' split) <;> simp
@[simp] theorem handleChannelDefer_engine_divider (c : Channel) (e : Nat) (l : Bool) (s : State) : (handleChannelDefer c e l s).engine.divider = s.engine.divider := by
  unfold handleChannelDefer
  dsimp only
  (repeat' split) <;> simp
@[simp] theorem handleChannelDefer_engine_bus (c : Channel) (e : Nat) (l : Bool) (s : State) : (handleChannelDefer c e l s).engine.bus = s.engine.bus := by
  unfold handleChannelDefer
  dsimp only
  (repeat' split) <;> simp
@[simp] theorem handleChannelDefer_xmem (c : Channel) (e : Nat) (l : Bool) (s : State) : (handleChannelDefer c e l s).xmem = s.xmem := by
  unfold handleChannelDefer
  dsimp only
  (repeat' split) <;> simp
@[simp] theorem handleChannelDefer_attn (c : Channel) (e : Nat) (l : Bool) (s : State) : (handleChannelDefer c e l s).attn = s.attn := by
  unfold handleChannelDefer
  dsimp only
  (repeat' split) <;> simp
@[simp] theorem handleChannelDefer_alerts_config (c : Channel) (e : Nat) (l : Bool) (s : State) : (handleChannelDefer c e l s).alerts.config = s.alerts.config := by
  unfold handleChannelDefer
  dsimp only
  (repeat' split) <;> simp
@[simp] theorem handleChannelDefer_alerts_sense (c : Channel) (e : Nat) (l : Bool) (s : State) : (handleChannelDefer c e l s).alerts.sense = s.alerts.sense := by
  unfold handleChannelDefer
  dsimp only
  (repeat' split) <;> simp
@[simp] theorem handleChannelDefer_alerts_inService (c : Channel) (e : Nat) (l : Bool) (s : State) : (handleChannelDefer c e l s).alerts.inService = s.alerts.inService := by
  unfold handleChannelDefer
  dsimp only
  (repeat' split) <;> simp
@[simp] theorem handleChannelDefer_fault (c : Channel) (e : Nat) (l : Bool) (s : State) : (handleChannelDefer c e l s).fault = s.fault := by
  unfold handleChannelDefer
  dsimp only
  (repeat' split) <;> simp
@[simp] theorem handleChannelDefer_free (c : Channel) (e : Nat) (l : Bool) (s : State) : (handleChannelDefer c e l s).free = s.free := by
  unfold handleChannelDefer
  dsimp only
  (repeat' split) <;> simp
@[simp] theorem handleChannelDefer_pending (c : Channel) (e : Nat) (l : Bool) (s : State) : (handleChannelDefer c e l s).pending = s.pending := by
  unfold handleChannelDefer
  dsimp only
  (repeat' split) <;> simp

/-! ### leaveMoving -/

@[simp] theorem leaveMoving_part (c : Channel) (e : WordEnd) (s : State) : (leaveMoving c e s).part = s.part := by
  unfold leaveMoving
  dsimp only
  (repeat' split) <;> simp
@[simp] theorem leaveMoving_port (c : Channel) (e : WordEnd) (s : State) : (leaveMoving c e s).port = s.port := by
  unfold leaveMoving
  dsimp only
  (repeat' split) <;> simp
@[simp] theorem leaveMoving_cfg (c : Channel) (e : WordEnd) (s : State) : (leaveMoving c e s).cfg = s.cfg := by
  unfold leaveMoving
  dsimp only
  (repeat' split) <;> simp
@[simp] theorem leaveMoving_profiles (c : Channel) (e : WordEnd) (s : State) : (leaveMoving c e s).profiles = s.profiles := by
  unfold leaveMoving
  dsimp only
  (repeat' split) <;> simp
@[simp] theorem leaveMoving_cq (c : Channel) (e : WordEnd) (s : State) : (leaveMoving c e s).cq = s.cq := by
  unfold leaveMoving
  dsimp only
  (repeat' split) <;> simp
@[simp] theorem leaveMoving_engine_share (c : Channel) (e : WordEnd) (s : State) : (leaveMoving c e s).engine.share = s.engine.share := by
  unfold leaveMoving
  dsimp only
  (repeat' split) <;> simp
@[simp] theorem leaveMoving_engine_pointer (c : Channel) (e : WordEnd) (s : State) : (leaveMoving c e s).engine.pointer = s.engine.pointer := by
  unfold leaveMoving
  dsimp only
  (repeat' split) <;> simp
@[simp] theorem leaveMoving_engine_divider (c : Channel) (e : WordEnd) (s : State) : (leaveMoving c e s).engine.divider = s.engine.divider := by
  unfold leaveMoving
  dsimp only
  (repeat' split) <;> simp
@[simp] theorem leaveMoving_xmem (c : Channel) (e : WordEnd) (s : State) : (leaveMoving c e s).xmem = s.xmem := by
  unfold leaveMoving
  dsimp only
  (repeat' split) <;> simp
@[simp] theorem leaveMoving_attn (c : Channel) (e : WordEnd) (s : State) : (leaveMoving c e s).attn = s.attn := by
  unfold leaveMoving
  dsimp only
  (repeat' split) <;> simp
@[simp] theorem leaveMoving_alerts_config (c : Channel) (e : WordEnd) (s : State) : (leaveMoving c e s).alerts.config = s.alerts.config := by
  unfold leaveMoving
  dsimp only
  (repeat' split) <;> simp
@[simp] theorem leaveMoving_alerts_sense (c : Channel) (e : WordEnd) (s : State) : (leaveMoving c e s).alerts.sense = s.alerts.sense := by
  unfold leaveMoving
  dsimp only
  (repeat' split) <;> simp
@[simp] theorem leaveMoving_alerts_inService (c : Channel) (e : WordEnd) (s : State) : (leaveMoving c e s).alerts.inService = s.alerts.inService := by
  unfold leaveMoving
  dsimp only
  (repeat' split) <;> simp
@[simp] theorem leaveMoving_fault (c : Channel) (e : WordEnd) (s : State) : (leaveMoving c e s).fault = s.fault := by
  unfold leaveMoving
  dsimp only
  (repeat' split) <;> simp
@[simp] theorem leaveMoving_free (c : Channel) (e : WordEnd) (s : State) : (leaveMoving c e s).free = s.free := by
  unfold leaveMoving
  dsimp only
  (repeat' split) <;> simp
@[simp] theorem leaveMoving_pending (c : Channel) (e : WordEnd) (s : State) : (leaveMoving c e s).pending = s.pending := by
  unfold leaveMoving
  dsimp only
  (repeat' split) <;> simp

/-! ### startRollback -/

@[simp] theorem startRollback_part (c : Channel) (e : WordEnd) (s : State) : (startRollback c e s).part = s.part := by
  unfold startRollback
  dsimp only
  (repeat' split) <;> simp
@[simp] theorem startRollback_port (c : Channel) (e : WordEnd) (s : State) : (startRollback c e s).port = s.port := by
  unfold startRollback
  dsimp only
  (repeat' split) <;> simp
@[simp] theorem startRollback_cfg (c : Channel) (e : WordEnd) (s : State) : (startRollback c e s).cfg = s.cfg := by
  unfold startRollback
  dsimp only
  (repeat' split) <;> simp
@[simp] theorem startRollback_profiles (c : Channel) (e : WordEnd) (s : State) : (startRollback c e s).profiles = s.profiles := by
  unfold startRollback
  dsimp only
  (repeat' split) <;> simp
@[simp] theorem startRollback_cq (c : Channel) (e : WordEnd) (s : State) : (startRollback c e s).cq = s.cq := by
  unfold startRollback
  dsimp only
  (repeat' split) <;> simp
@[simp] theorem startRollback_engine_share (c : Channel) (e : WordEnd) (s : State) : (startRollback c e s).engine.share = s.engine.share := by
  unfold startRollback
  dsimp only
  (repeat' split) <;> simp
@[simp] theorem startRollback_engine_pointer (c : Channel) (e : WordEnd) (s : State) : (startRollback c e s).engine.pointer = s.engine.pointer := by
  unfold startRollback
  dsimp only
  (repeat' split) <;> simp
@[simp] theorem startRollback_engine_divider (c : Channel) (e : WordEnd) (s : State) : (startRollback c e s).engine.divider = s.engine.divider := by
  unfold startRollback
  dsimp only
  (repeat' split) <;> simp
@[simp] theorem startRollback_xmem (c : Channel) (e : WordEnd) (s : State) : (startRollback c e s).xmem = s.xmem := by
  unfold startRollback
  dsimp only
  (repeat' split) <;> simp
@[simp] theorem startRollback_attn (c : Channel) (e : WordEnd) (s : State) : (startRollback c e s).attn = s.attn := by
  unfold startRollback
  dsimp only
  (repeat' split) <;> simp
@[simp] theorem startRollback_alerts_config (c : Channel) (e : WordEnd) (s : State) : (startRollback c e s).alerts.config = s.alerts.config := by
  unfold startRollback
  dsimp only
  (repeat' split) <;> simp
@[simp] theorem startRollback_alerts_sense (c : Channel) (e : WordEnd) (s : State) : (startRollback c e s).alerts.sense = s.alerts.sense := by
  unfold startRollback
  dsimp only
  (repeat' split) <;> simp
@[simp] theorem startRollback_alerts_inService (c : Channel) (e : WordEnd) (s : State) : (startRollback c e s).alerts.inService = s.alerts.inService := by
  unfold startRollback
  dsimp only
  (repeat' split) <;> simp
@[simp] theorem startRollback_fault (c : Channel) (e : WordEnd) (s : State) : (startRollback c e s).fault = s.fault := by
  unfold startRollback
  dsimp only
  (repeat' split) <;> simp
@[simp] theorem startRollback_free (c : Channel) (e : WordEnd) (s : State) : (startRollback c e s).free = s.free := by
  unfold startRollback
  dsimp only
  (repeat' split) <;> simp
@[simp] theorem startRollback_pending (c : Channel) (e : WordEnd) (s : State) : (startRollback c e s).pending = s.pending := by
  unfold startRollback
  dsimp only
  (repeat' split) <;> simp

/-! ### finishCcb -/

@[simp] theorem finishCcb_part (c : Channel) (l : Bool) (s : State) : (finishCcb c l s).part = s.part := by
  unfold finishCcb
  dsimp only
  (repeat' split) <;> simp
@[simp] theorem finishCcb_port (c : Channel) (l : Bool) (s : State) : (finishCcb c l s).port = s.port := by
  unfold finishCcb
  dsimp only
  (repeat' split) <;> simp
@[simp] theorem finishCcb_cfg (c : Channel) (l : Bool) (s : State) : (finishCcb c l s).cfg = s.cfg := by
  unfold finishCcb
  dsimp only
  (repeat' split) <;> simp
@[simp] theorem finishCcb_profiles (c : Channel) (l : Bool) (s : State) : (finishCcb c l s).profiles = s.profiles := by
  unfold finishCcb
  dsimp only
  (repeat' split) <;> simp
@[simp] theorem finishCcb_rq (c : Channel) (l : Bool) (s : State) : (finishCcb c l s).rq = s.rq := by
  unfold finishCcb
  dsimp only
  (repeat' split) <;> simp
@[simp] theorem finishCcb_cq (c : Channel) (l : Bool) (s : State) : (finishCcb c l s).cq = s.cq := by
  unfold finishCcb
  dsimp only
  (repeat' split) <;> simp
@[simp] theorem finishCcb_engine_share (c : Channel) (l : Bool) (s : State) : (finishCcb c l s).engine.share = s.engine.share := by
  unfold finishCcb
  dsimp only
  (repeat' split) <;> simp
@[simp] theorem finishCcb_engine_pointer (c : Channel) (l : Bool) (s : State) : (finishCcb c l s).engine.pointer = s.engine.pointer := by
  unfold finishCcb
  dsimp only
  (repeat' split) <;> simp
@[simp] theorem finishCcb_engine_divider (c : Channel) (l : Bool) (s : State) : (finishCcb c l s).engine.divider = s.engine.divider := by
  unfold finishCcb
  dsimp only
  (repeat' split) <;> simp
@[simp] theorem finishCcb_engine_bus (c : Channel) (l : Bool) (s : State) : (finishCcb c l s).engine.bus = s.engine.bus := by
  unfold finishCcb
  dsimp only
  (repeat' split) <;> simp
@[simp] theorem finishCcb_xmem (c : Channel) (l : Bool) (s : State) : (finishCcb c l s).xmem = s.xmem := by
  unfold finishCcb
  dsimp only
  (repeat' split) <;> simp
@[simp] theorem finishCcb_attn (c : Channel) (l : Bool) (s : State) : (finishCcb c l s).attn = s.attn := by
  unfold finishCcb
  dsimp only
  (repeat' split) <;> simp
@[simp] theorem finishCcb_alerts_config (c : Channel) (l : Bool) (s : State) : (finishCcb c l s).alerts.config = s.alerts.config := by
  unfold finishCcb
  dsimp only
  (repeat' split) <;> simp
@[simp] theorem finishCcb_alerts_sense (c : Channel) (l : Bool) (s : State) : (finishCcb c l s).alerts.sense = s.alerts.sense := by
  unfold finishCcb
  dsimp only
  (repeat' split) <;> simp
@[simp] theorem finishCcb_alerts_inService (c : Channel) (l : Bool) (s : State) : (finishCcb c l s).alerts.inService = s.alerts.inService := by
  unfold finishCcb
  dsimp only
  (repeat' split) <;> simp
@[simp] theorem finishCcb_fault (c : Channel) (l : Bool) (s : State) : (finishCcb c l s).fault = s.fault := by
  unfold finishCcb
  dsimp only
  (repeat' split) <;> simp
@[simp] theorem finishCcb_free (c : Channel) (l : Bool) (s : State) : (finishCcb c l s).free = s.free := by
  unfold finishCcb
  dsimp only
  (repeat' split) <;> simp
@[simp] theorem finishCcb_pending (c : Channel) (l : Bool) (s : State) : (finishCcb c l s).pending = s.pending := by
  unfold finishCcb
  dsimp only
  (repeat' split) <;> simp

/-! ### consumeFresh -/

@[simp] theorem consumeFresh_part (k : Control) (s : State) : (consumeFresh k s).part = s.part := by
  unfold consumeFresh
  (repeat' split) <;> simp
@[simp] theorem consumeFresh_port (k : Control) (s : State) : (consumeFresh k s).port = s.port := by
  unfold consumeFresh
  (repeat' split) <;> simp
@[simp] theorem consumeFresh_cfg (k : Control) (s : State) : (consumeFresh k s).cfg = s.cfg := by
  unfold consumeFresh
  (repeat' split) <;> simp
@[simp] theorem consumeFresh_profiles (k : Control) (s : State) : (consumeFresh k s).profiles = s.profiles := by
  unfold consumeFresh
  (repeat' split) <;> simp
@[simp] theorem consumeFresh_rq (k : Control) (s : State) : (consumeFresh k s).rq = s.rq := by
  unfold consumeFresh
  (repeat' split) <;> simp
@[simp] theorem consumeFresh_cq (k : Control) (s : State) : (consumeFresh k s).cq = s.cq := by
  unfold consumeFresh
  (repeat' split) <;> simp
@[simp] theorem consumeFresh_engine_share (k : Control) (s : State) : (consumeFresh k s).engine.share = s.engine.share := by
  unfold consumeFresh
  (repeat' split) <;> simp
@[simp] theorem consumeFresh_engine_pointer (k : Control) (s : State) : (consumeFresh k s).engine.pointer = s.engine.pointer := by
  unfold consumeFresh
  (repeat' split) <;> simp
@[simp] theorem consumeFresh_engine_divider (k : Control) (s : State) : (consumeFresh k s).engine.divider = s.engine.divider := by
  unfold consumeFresh
  (repeat' split) <;> simp
@[simp] theorem consumeFresh_engine_bus (k : Control) (s : State) : (consumeFresh k s).engine.bus = s.engine.bus := by
  unfold consumeFresh
  (repeat' split) <;> simp
@[simp] theorem consumeFresh_engine_run (k : Control) (s : State) : (consumeFresh k s).engine.run = s.engine.run := by
  unfold consumeFresh
  (repeat' split) <;> simp
@[simp] theorem consumeFresh_xmem (k : Control) (s : State) : (consumeFresh k s).xmem = s.xmem := by
  unfold consumeFresh
  (repeat' split) <;> simp
@[simp] theorem consumeFresh_channels (k : Control) (s : State) : (consumeFresh k s).channels = s.channels := by
  unfold consumeFresh
  (repeat' split) <;> simp
@[simp] theorem consumeFresh_alerts_config (k : Control) (s : State) : (consumeFresh k s).alerts.config = s.alerts.config := by
  unfold consumeFresh
  (repeat' split) <;> simp
@[simp] theorem consumeFresh_alerts_sense (k : Control) (s : State) : (consumeFresh k s).alerts.sense = s.alerts.sense := by
  unfold consumeFresh
  (repeat' split) <;> simp
@[simp] theorem consumeFresh_alerts_inService (k : Control) (s : State) : (consumeFresh k s).alerts.inService = s.alerts.inService := by
  unfold consumeFresh
  (repeat' split) <;> simp
@[simp] theorem consumeFresh_alerts_haltedPending (k : Control) (s : State) : (consumeFresh k s).alerts.haltedPending = s.alerts.haltedPending := by
  unfold consumeFresh
  (repeat' split) <;> simp
@[simp] theorem consumeFresh_fault (k : Control) (s : State) : (consumeFresh k s).fault = s.fault := by
  unfold consumeFresh
  (repeat' split) <;> simp
@[simp] theorem consumeFresh_free (k : Control) (s : State) : (consumeFresh k s).free = s.free := by
  unfold consumeFresh
  (repeat' split) <;> simp
@[simp] theorem consumeFresh_pending (k : Control) (s : State) : (consumeFresh k s).pending = s.pending := by
  unfold consumeFresh
  (repeat' split) <;> simp

/-! ### channelAck -/

@[simp] theorem channelAck_part (c : Channel) (s : State) : (channelAck c s).part = s.part := by
  unfold channelAck
  dsimp only
  (repeat' split) <;> simp
@[simp] theorem channelAck_port (c : Channel) (s : State) : (channelAck c s).port = s.port := by
  unfold channelAck
  dsimp only
  (repeat' split) <;> simp
@[simp] theorem channelAck_cfg (c : Channel) (s : State) : (channelAck c s).cfg = s.cfg := by
  unfold channelAck
  dsimp only
  (repeat' split) <;> simp
@[simp] theorem channelAck_profiles (c : Channel) (s : State) : (channelAck c s).profiles = s.profiles := by
  unfold channelAck
  dsimp only
  (repeat' split) <;> simp
@[simp] theorem channelAck_rq (c : Channel) (s : State) : (channelAck c s).rq = s.rq := by
  unfold channelAck
  dsimp only
  (repeat' split) <;> simp
@[simp] theorem channelAck_cq (c : Channel) (s : State) : (channelAck c s).cq = s.cq := by
  unfold channelAck
  dsimp only
  (repeat' split) <;> simp
@[simp] theorem channelAck_engine_share (c : Channel) (s : State) : (channelAck c s).engine.share = s.engine.share := by
  unfold channelAck
  dsimp only
  (repeat' split) <;> simp
@[simp] theorem channelAck_engine_pointer (c : Channel) (s : State) : (channelAck c s).engine.pointer = s.engine.pointer := by
  unfold channelAck
  dsimp only
  (repeat' split) <;> simp
@[simp] theorem channelAck_engine_divider (c : Channel) (s : State) : (channelAck c s).engine.divider = s.engine.divider := by
  unfold channelAck
  dsimp only
  (repeat' split) <;> simp
@[simp] theorem channelAck_xmem (c : Channel) (s : State) : (channelAck c s).xmem = s.xmem := by
  unfold channelAck
  dsimp only
  (repeat' split) <;> simp
@[simp] theorem channelAck_alerts_config (c : Channel) (s : State) : (channelAck c s).alerts.config = s.alerts.config := by
  unfold channelAck
  dsimp only
  (repeat' split) <;> simp
@[simp] theorem channelAck_alerts_sense (c : Channel) (s : State) : (channelAck c s).alerts.sense = s.alerts.sense := by
  unfold channelAck
  dsimp only
  (repeat' split) <;> simp
@[simp] theorem channelAck_alerts_inService (c : Channel) (s : State) : (channelAck c s).alerts.inService = s.alerts.inService := by
  unfold channelAck
  dsimp only
  (repeat' split) <;> simp
@[simp] theorem channelAck_fault (c : Channel) (s : State) : (channelAck c s).fault = s.fault := by
  unfold channelAck
  dsimp only
  (repeat' split) <;> simp
@[simp] theorem channelAck_free (c : Channel) (s : State) : (channelAck c s).free = s.free := by
  unfold channelAck
  dsimp only
  (repeat' split) <;> simp
@[simp] theorem channelAck_pending (c : Channel) (s : State) : (channelAck c s).pending = s.pending := by
  unfold channelAck
  dsimp only
  (repeat' split) <;> simp

/-! ### channelOutcome -/

@[simp] theorem channelOutcome_part (c : Channel) (o : CycleOutcome) (s : State) : (channelOutcome c o s).part = s.part := by
  unfold channelOutcome
  (repeat' split) <;> simp
@[simp] theorem channelOutcome_port (c : Channel) (o : CycleOutcome) (s : State) : (channelOutcome c o s).port = s.port := by
  unfold channelOutcome
  (repeat' split) <;> simp
@[simp] theorem channelOutcome_cfg (c : Channel) (o : CycleOutcome) (s : State) : (channelOutcome c o s).cfg = s.cfg := by
  unfold channelOutcome
  (repeat' split) <;> simp
@[simp] theorem channelOutcome_profiles (c : Channel) (o : CycleOutcome) (s : State) : (channelOutcome c o s).profiles = s.profiles := by
  unfold channelOutcome
  (repeat' split) <;> simp
@[simp] theorem channelOutcome_cq (c : Channel) (o : CycleOutcome) (s : State) : (channelOutcome c o s).cq = s.cq := by
  unfold channelOutcome
  (repeat' split) <;> simp
@[simp] theorem channelOutcome_engine_share (c : Channel) (o : CycleOutcome) (s : State) : (channelOutcome c o s).engine.share = s.engine.share := by
  unfold channelOutcome
  (repeat' split) <;> simp
@[simp] theorem channelOutcome_engine_pointer (c : Channel) (o : CycleOutcome) (s : State) : (channelOutcome c o s).engine.pointer = s.engine.pointer := by
  unfold channelOutcome
  (repeat' split) <;> simp
@[simp] theorem channelOutcome_engine_divider (c : Channel) (o : CycleOutcome) (s : State) : (channelOutcome c o s).engine.divider = s.engine.divider := by
  unfold channelOutcome
  (repeat' split) <;> simp
@[simp] theorem channelOutcome_xmem (c : Channel) (o : CycleOutcome) (s : State) : (channelOutcome c o s).xmem = s.xmem := by
  unfold channelOutcome
  (repeat' split) <;> simp
@[simp] theorem channelOutcome_alerts_config (c : Channel) (o : CycleOutcome) (s : State) : (channelOutcome c o s).alerts.config = s.alerts.config := by
  unfold channelOutcome
  (repeat' split) <;> simp
@[simp] theorem channelOutcome_alerts_sense (c : Channel) (o : CycleOutcome) (s : State) : (channelOutcome c o s).alerts.sense = s.alerts.sense := by
  unfold channelOutcome
  (repeat' split) <;> simp
@[simp] theorem channelOutcome_alerts_inService (c : Channel) (o : CycleOutcome) (s : State) : (channelOutcome c o s).alerts.inService = s.alerts.inService := by
  unfold channelOutcome
  (repeat' split) <;> simp
@[simp] theorem channelOutcome_fault (c : Channel) (o : CycleOutcome) (s : State) : (channelOutcome c o s).fault = s.fault := by
  unfold channelOutcome
  (repeat' split) <;> simp
@[simp] theorem channelOutcome_free (c : Channel) (o : CycleOutcome) (s : State) : (channelOutcome c o s).free = s.free := by
  unfold channelOutcome
  (repeat' split) <;> simp
@[simp] theorem channelOutcome_pending (c : Channel) (o : CycleOutcome) (s : State) : (channelOutcome c o s).pending = s.pending := by
  unfold channelOutcome
  (repeat' split) <;> simp

/-! ### writeCycleFault -/

@[simp] theorem writeCycleFault_part (o : CycleOutcome) (n : Option Station) (s : State) : (writeCycleFault o n s).part = s.part := by
  unfold writeCycleFault
  (repeat' split) <;> simp
@[simp] theorem writeCycleFault_port (o : CycleOutcome) (n : Option Station) (s : State) : (writeCycleFault o n s).port = s.port := by
  unfold writeCycleFault
  (repeat' split) <;> simp
@[simp] theorem writeCycleFault_cfg (o : CycleOutcome) (n : Option Station) (s : State) : (writeCycleFault o n s).cfg = s.cfg := by
  unfold writeCycleFault
  (repeat' split) <;> simp
@[simp] theorem writeCycleFault_profiles (o : CycleOutcome) (n : Option Station) (s : State) : (writeCycleFault o n s).profiles = s.profiles := by
  unfold writeCycleFault
  (repeat' split) <;> simp
@[simp] theorem writeCycleFault_rq (o : CycleOutcome) (n : Option Station) (s : State) : (writeCycleFault o n s).rq = s.rq := by
  unfold writeCycleFault
  (repeat' split) <;> simp
@[simp] theorem writeCycleFault_cq (o : CycleOutcome) (n : Option Station) (s : State) : (writeCycleFault o n s).cq = s.cq := by
  unfold writeCycleFault
  (repeat' split) <;> simp
@[simp] theorem writeCycleFault_engine_share (o : CycleOutcome) (n : Option Station) (s : State) : (writeCycleFault o n s).engine.share = s.engine.share := by
  unfold writeCycleFault
  (repeat' split) <;> simp
@[simp] theorem writeCycleFault_engine_pointer (o : CycleOutcome) (n : Option Station) (s : State) : (writeCycleFault o n s).engine.pointer = s.engine.pointer := by
  unfold writeCycleFault
  (repeat' split) <;> simp
@[simp] theorem writeCycleFault_engine_divider (o : CycleOutcome) (n : Option Station) (s : State) : (writeCycleFault o n s).engine.divider = s.engine.divider := by
  unfold writeCycleFault
  (repeat' split) <;> simp
@[simp] theorem writeCycleFault_engine_bus (o : CycleOutcome) (n : Option Station) (s : State) : (writeCycleFault o n s).engine.bus = s.engine.bus := by
  unfold writeCycleFault
  (repeat' split) <;> simp
@[simp] theorem writeCycleFault_engine_run (o : CycleOutcome) (n : Option Station) (s : State) : (writeCycleFault o n s).engine.run = s.engine.run := by
  unfold writeCycleFault
  (repeat' split) <;> simp
@[simp] theorem writeCycleFault_xmem (o : CycleOutcome) (n : Option Station) (s : State) : (writeCycleFault o n s).xmem = s.xmem := by
  unfold writeCycleFault
  (repeat' split) <;> simp
@[simp] theorem writeCycleFault_channels (o : CycleOutcome) (n : Option Station) (s : State) : (writeCycleFault o n s).channels = s.channels := by
  unfold writeCycleFault
  (repeat' split) <;> simp
@[simp] theorem writeCycleFault_attn (o : CycleOutcome) (n : Option Station) (s : State) : (writeCycleFault o n s).attn = s.attn := by
  unfold writeCycleFault
  (repeat' split) <;> simp
@[simp] theorem writeCycleFault_alerts_config (o : CycleOutcome) (n : Option Station) (s : State) : (writeCycleFault o n s).alerts.config = s.alerts.config := by
  unfold writeCycleFault
  (repeat' split) <;> simp
@[simp] theorem writeCycleFault_alerts_sense (o : CycleOutcome) (n : Option Station) (s : State) : (writeCycleFault o n s).alerts.sense = s.alerts.sense := by
  unfold writeCycleFault
  (repeat' split) <;> simp
@[simp] theorem writeCycleFault_alerts_inService (o : CycleOutcome) (n : Option Station) (s : State) : (writeCycleFault o n s).alerts.inService = s.alerts.inService := by
  unfold writeCycleFault
  (repeat' split) <;> simp
@[simp] theorem writeCycleFault_alerts_haltedPending (o : CycleOutcome) (n : Option Station) (s : State) : (writeCycleFault o n s).alerts.haltedPending = s.alerts.haltedPending := by
  unfold writeCycleFault
  (repeat' split) <;> simp
@[simp] theorem writeCycleFault_free (o : CycleOutcome) (n : Option Station) (s : State) : (writeCycleFault o n s).free = s.free := by
  unfold writeCycleFault
  (repeat' split) <;> simp
@[simp] theorem writeCycleFault_pending (o : CycleOutcome) (n : Option Station) (s : State) : (writeCycleFault o n s).pending = s.pending := by
  unfold writeCycleFault
  (repeat' split) <;> simp

/-! ### wordMeetsReset -/

@[simp] theorem wordMeetsReset_part (c : Channel) (n : Option Station) (s : State) : (wordMeetsReset c n s).part = s.part := by
  unfold wordMeetsReset
  (repeat' split) <;> simp
@[simp] theorem wordMeetsReset_port (c : Channel) (n : Option Station) (s : State) : (wordMeetsReset c n s).port = s.port := by
  unfold wordMeetsReset
  (repeat' split) <;> simp
@[simp] theorem wordMeetsReset_cfg (c : Channel) (n : Option Station) (s : State) : (wordMeetsReset c n s).cfg = s.cfg := by
  unfold wordMeetsReset
  (repeat' split) <;> simp
@[simp] theorem wordMeetsReset_profiles (c : Channel) (n : Option Station) (s : State) : (wordMeetsReset c n s).profiles = s.profiles := by
  unfold wordMeetsReset
  (repeat' split) <;> simp
@[simp] theorem wordMeetsReset_cq (c : Channel) (n : Option Station) (s : State) : (wordMeetsReset c n s).cq = s.cq := by
  unfold wordMeetsReset
  (repeat' split) <;> simp
@[simp] theorem wordMeetsReset_engine_share (c : Channel) (n : Option Station) (s : State) : (wordMeetsReset c n s).engine.share = s.engine.share := by
  unfold wordMeetsReset
  (repeat' split) <;> simp
@[simp] theorem wordMeetsReset_engine_pointer (c : Channel) (n : Option Station) (s : State) : (wordMeetsReset c n s).engine.pointer = s.engine.pointer := by
  unfold wordMeetsReset
  (repeat' split) <;> simp
@[simp] theorem wordMeetsReset_engine_divider (c : Channel) (n : Option Station) (s : State) : (wordMeetsReset c n s).engine.divider = s.engine.divider := by
  unfold wordMeetsReset
  (repeat' split) <;> simp
@[simp] theorem wordMeetsReset_xmem (c : Channel) (n : Option Station) (s : State) : (wordMeetsReset c n s).xmem = s.xmem := by
  unfold wordMeetsReset
  (repeat' split) <;> simp
@[simp] theorem wordMeetsReset_alerts_config (c : Channel) (n : Option Station) (s : State) : (wordMeetsReset c n s).alerts.config = s.alerts.config := by
  unfold wordMeetsReset
  (repeat' split) <;> simp
@[simp] theorem wordMeetsReset_alerts_sense (c : Channel) (n : Option Station) (s : State) : (wordMeetsReset c n s).alerts.sense = s.alerts.sense := by
  unfold wordMeetsReset
  (repeat' split) <;> simp
@[simp] theorem wordMeetsReset_alerts_inService (c : Channel) (n : Option Station) (s : State) : (wordMeetsReset c n s).alerts.inService = s.alerts.inService := by
  unfold wordMeetsReset
  (repeat' split) <;> simp
@[simp] theorem wordMeetsReset_free (c : Channel) (n : Option Station) (s : State) : (wordMeetsReset c n s).free = s.free := by
  unfold wordMeetsReset
  (repeat' split) <;> simp
@[simp] theorem wordMeetsReset_pending (c : Channel) (n : Option Station) (s : State) : (wordMeetsReset c n s).pending = s.pending := by
  unfold wordMeetsReset
  (repeat' split) <;> simp

/-! ### ownerMeetsReset -/

@[simp] theorem ownerMeetsReset_part (w : BusWork) (s : State) : (ownerMeetsReset w s).part = s.part := by
  unfold ownerMeetsReset
  (repeat' split) <;> simp
@[simp] theorem ownerMeetsReset_port (w : BusWork) (s : State) : (ownerMeetsReset w s).port = s.port := by
  unfold ownerMeetsReset
  (repeat' split) <;> simp
@[simp] theorem ownerMeetsReset_cfg (w : BusWork) (s : State) : (ownerMeetsReset w s).cfg = s.cfg := by
  unfold ownerMeetsReset
  (repeat' split) <;> simp
@[simp] theorem ownerMeetsReset_profiles (w : BusWork) (s : State) : (ownerMeetsReset w s).profiles = s.profiles := by
  unfold ownerMeetsReset
  (repeat' split) <;> simp
@[simp] theorem ownerMeetsReset_engine_share (w : BusWork) (s : State) : (ownerMeetsReset w s).engine.share = s.engine.share := by
  unfold ownerMeetsReset
  (repeat' split) <;> simp
@[simp] theorem ownerMeetsReset_engine_pointer (w : BusWork) (s : State) : (ownerMeetsReset w s).engine.pointer = s.engine.pointer := by
  unfold ownerMeetsReset
  (repeat' split) <;> simp
@[simp] theorem ownerMeetsReset_engine_divider (w : BusWork) (s : State) : (ownerMeetsReset w s).engine.divider = s.engine.divider := by
  unfold ownerMeetsReset
  (repeat' split) <;> simp
@[simp] theorem ownerMeetsReset_xmem (w : BusWork) (s : State) : (ownerMeetsReset w s).xmem = s.xmem := by
  unfold ownerMeetsReset
  (repeat' split) <;> simp
@[simp] theorem ownerMeetsReset_alerts_config (w : BusWork) (s : State) : (ownerMeetsReset w s).alerts.config = s.alerts.config := by
  unfold ownerMeetsReset
  (repeat' split) <;> simp
@[simp] theorem ownerMeetsReset_alerts_sense (w : BusWork) (s : State) : (ownerMeetsReset w s).alerts.sense = s.alerts.sense := by
  unfold ownerMeetsReset
  (repeat' split) <;> simp
@[simp] theorem ownerMeetsReset_alerts_inService (w : BusWork) (s : State) : (ownerMeetsReset w s).alerts.inService = s.alerts.inService := by
  unfold ownerMeetsReset
  (repeat' split) <;> simp
@[simp] theorem ownerMeetsReset_pending (w : BusWork) (s : State) : (ownerMeetsReset w s).pending = s.pending := by
  unfold ownerMeetsReset
  (repeat' split) <;> simp

/-! ### requestsMeetReset -/

@[simp] theorem requestsMeetReset_part (s : State) : (requestsMeetReset s).part = s.part := rfl
@[simp] theorem requestsMeetReset_port (s : State) : (requestsMeetReset s).port = s.port := rfl
@[simp] theorem requestsMeetReset_cfg (s : State) : (requestsMeetReset s).cfg = s.cfg := rfl
@[simp] theorem requestsMeetReset_profiles (s : State) : (requestsMeetReset s).profiles = s.profiles := rfl
@[simp] theorem requestsMeetReset_cq (s : State) : (requestsMeetReset s).cq = s.cq := rfl
@[simp] theorem requestsMeetReset_engine_share (s : State) : (requestsMeetReset s).engine.share = s.engine.share := rfl
@[simp] theorem requestsMeetReset_engine_pointer (s : State) : (requestsMeetReset s).engine.pointer = s.engine.pointer := rfl
@[simp] theorem requestsMeetReset_engine_divider (s : State) : (requestsMeetReset s).engine.divider = s.engine.divider := rfl
@[simp] theorem requestsMeetReset_engine_bus (s : State) : (requestsMeetReset s).engine.bus = s.engine.bus := rfl
@[simp] theorem requestsMeetReset_engine_run (s : State) : (requestsMeetReset s).engine.run = s.engine.run := rfl
@[simp] theorem requestsMeetReset_xmem (s : State) : (requestsMeetReset s).xmem = s.xmem := rfl
@[simp] theorem requestsMeetReset_channels (s : State) : (requestsMeetReset s).channels = s.channels := rfl
@[simp] theorem requestsMeetReset_attn (s : State) : (requestsMeetReset s).attn = s.attn := rfl
@[simp] theorem requestsMeetReset_alerts_config (s : State) : (requestsMeetReset s).alerts.config = s.alerts.config := rfl
@[simp] theorem requestsMeetReset_alerts_sense (s : State) : (requestsMeetReset s).alerts.sense = s.alerts.sense := rfl
@[simp] theorem requestsMeetReset_alerts_inService (s : State) : (requestsMeetReset s).alerts.inService = s.alerts.inService := rfl
@[simp] theorem requestsMeetReset_alerts_haltedPending (s : State) : (requestsMeetReset s).alerts.haltedPending = s.alerts.haltedPending := rfl
@[simp] theorem requestsMeetReset_fault (s : State) : (requestsMeetReset s).fault = s.fault := rfl
@[simp] theorem requestsMeetReset_free (s : State) : (requestsMeetReset s).free = s.free := rfl
@[simp] theorem requestsMeetReset_pending (s : State) : (requestsMeetReset s).pending = s.pending := rfl

/-! ### channelMeetsReset -/

@[simp] theorem channelMeetsReset_part (c : Channel) (s : State) : (channelMeetsReset c s).part = s.part := by
  unfold channelMeetsReset
  (repeat' split) <;> simp
@[simp] theorem channelMeetsReset_port (c : Channel) (s : State) : (channelMeetsReset c s).port = s.port := by
  unfold channelMeetsReset
  (repeat' split) <;> simp
@[simp] theorem channelMeetsReset_cfg (c : Channel) (s : State) : (channelMeetsReset c s).cfg = s.cfg := by
  unfold channelMeetsReset
  (repeat' split) <;> simp
@[simp] theorem channelMeetsReset_profiles (c : Channel) (s : State) : (channelMeetsReset c s).profiles = s.profiles := by
  unfold channelMeetsReset
  (repeat' split) <;> simp
@[simp] theorem channelMeetsReset_rq (c : Channel) (s : State) : (channelMeetsReset c s).rq = s.rq := by
  unfold channelMeetsReset
  (repeat' split) <;> simp
@[simp] theorem channelMeetsReset_cq (c : Channel) (s : State) : (channelMeetsReset c s).cq = s.cq := by
  unfold channelMeetsReset
  (repeat' split) <;> simp
@[simp] theorem channelMeetsReset_engine_share (c : Channel) (s : State) : (channelMeetsReset c s).engine.share = s.engine.share := by
  unfold channelMeetsReset
  (repeat' split) <;> simp
@[simp] theorem channelMeetsReset_engine_pointer (c : Channel) (s : State) : (channelMeetsReset c s).engine.pointer = s.engine.pointer := by
  unfold channelMeetsReset
  (repeat' split) <;> simp
@[simp] theorem channelMeetsReset_engine_divider (c : Channel) (s : State) : (channelMeetsReset c s).engine.divider = s.engine.divider := by
  unfold channelMeetsReset
  (repeat' split) <;> simp
@[simp] theorem channelMeetsReset_engine_bus (c : Channel) (s : State) : (channelMeetsReset c s).engine.bus = s.engine.bus := by
  unfold channelMeetsReset
  (repeat' split) <;> simp
@[simp] theorem channelMeetsReset_xmem (c : Channel) (s : State) : (channelMeetsReset c s).xmem = s.xmem := by
  unfold channelMeetsReset
  (repeat' split) <;> simp
@[simp] theorem channelMeetsReset_attn (c : Channel) (s : State) : (channelMeetsReset c s).attn = s.attn := by
  unfold channelMeetsReset
  (repeat' split) <;> simp
@[simp] theorem channelMeetsReset_alerts_config (c : Channel) (s : State) : (channelMeetsReset c s).alerts.config = s.alerts.config := by
  unfold channelMeetsReset
  (repeat' split) <;> simp
@[simp] theorem channelMeetsReset_alerts_sense (c : Channel) (s : State) : (channelMeetsReset c s).alerts.sense = s.alerts.sense := by
  unfold channelMeetsReset
  (repeat' split) <;> simp
@[simp] theorem channelMeetsReset_alerts_inService (c : Channel) (s : State) : (channelMeetsReset c s).alerts.inService = s.alerts.inService := by
  unfold channelMeetsReset
  (repeat' split) <;> simp
@[simp] theorem channelMeetsReset_fault (c : Channel) (s : State) : (channelMeetsReset c s).fault = s.fault := by
  unfold channelMeetsReset
  (repeat' split) <;> simp
@[simp] theorem channelMeetsReset_free (c : Channel) (s : State) : (channelMeetsReset c s).free = s.free := by
  unfold channelMeetsReset
  (repeat' split) <;> simp
@[simp] theorem channelMeetsReset_pending (c : Channel) (s : State) : (channelMeetsReset c s).pending = s.pending := by
  unfold channelMeetsReset
  (repeat' split) <;> simp

/-! ### channelsMeetReset -/

@[simp] theorem channelsMeetReset_part (s : State) : (channelsMeetReset s).part = s.part := by
  simp [channelsMeetReset]
@[simp] theorem channelsMeetReset_port (s : State) : (channelsMeetReset s).port = s.port := by
  simp [channelsMeetReset]
@[simp] theorem channelsMeetReset_cfg (s : State) : (channelsMeetReset s).cfg = s.cfg := by
  simp [channelsMeetReset]
@[simp] theorem channelsMeetReset_profiles (s : State) : (channelsMeetReset s).profiles = s.profiles := by
  simp [channelsMeetReset]
@[simp] theorem channelsMeetReset_rq (s : State) : (channelsMeetReset s).rq = s.rq := by
  simp [channelsMeetReset]
@[simp] theorem channelsMeetReset_cq (s : State) : (channelsMeetReset s).cq = s.cq := by
  simp [channelsMeetReset]
@[simp] theorem channelsMeetReset_engine_share (s : State) : (channelsMeetReset s).engine.share = s.engine.share := by
  simp [channelsMeetReset]
@[simp] theorem channelsMeetReset_engine_pointer (s : State) : (channelsMeetReset s).engine.pointer = s.engine.pointer := by
  simp [channelsMeetReset]
@[simp] theorem channelsMeetReset_engine_divider (s : State) : (channelsMeetReset s).engine.divider = s.engine.divider := by
  simp [channelsMeetReset]
@[simp] theorem channelsMeetReset_engine_bus (s : State) : (channelsMeetReset s).engine.bus = s.engine.bus := by
  simp [channelsMeetReset]
@[simp] theorem channelsMeetReset_xmem (s : State) : (channelsMeetReset s).xmem = s.xmem := by
  simp [channelsMeetReset]
@[simp] theorem channelsMeetReset_attn (s : State) : (channelsMeetReset s).attn = s.attn := by
  simp [channelsMeetReset]
@[simp] theorem channelsMeetReset_alerts_config (s : State) : (channelsMeetReset s).alerts.config = s.alerts.config := by
  simp [channelsMeetReset]
@[simp] theorem channelsMeetReset_alerts_sense (s : State) : (channelsMeetReset s).alerts.sense = s.alerts.sense := by
  simp [channelsMeetReset]
@[simp] theorem channelsMeetReset_alerts_inService (s : State) : (channelsMeetReset s).alerts.inService = s.alerts.inService := by
  simp [channelsMeetReset]
@[simp] theorem channelsMeetReset_fault (s : State) : (channelsMeetReset s).fault = s.fault := by
  simp [channelsMeetReset]
@[simp] theorem channelsMeetReset_free (s : State) : (channelsMeetReset s).free = s.free := by
  simp [channelsMeetReset]
@[simp] theorem channelsMeetReset_pending (s : State) : (channelsMeetReset s).pending = s.pending := by
  simp [channelsMeetReset]

/-! ### startBusReset -/

@[simp] theorem startBusReset_part (s : State) : (startBusReset s).part = s.part := by
  unfold startBusReset
  dsimp only
  (repeat' split) <;> simp
@[simp] theorem startBusReset_port (s : State) : (startBusReset s).port = s.port := by
  unfold startBusReset
  dsimp only
  (repeat' split) <;> simp
@[simp] theorem startBusReset_cfg (s : State) : (startBusReset s).cfg = s.cfg := by
  unfold startBusReset
  dsimp only
  (repeat' split) <;> simp
@[simp] theorem startBusReset_profiles (s : State) : (startBusReset s).profiles = s.profiles := by
  unfold startBusReset
  dsimp only
  (repeat' split) <;> simp
@[simp] theorem startBusReset_engine_share (s : State) : (startBusReset s).engine.share = s.engine.share := by
  unfold startBusReset
  dsimp only
  (repeat' split) <;> simp
@[simp] theorem startBusReset_engine_pointer (s : State) : (startBusReset s).engine.pointer = s.engine.pointer := by
  unfold startBusReset
  dsimp only
  (repeat' split) <;> simp
@[simp] theorem startBusReset_engine_divider (s : State) : (startBusReset s).engine.divider = s.engine.divider := by
  unfold startBusReset
  dsimp only
  (repeat' split) <;> simp
@[simp] theorem startBusReset_xmem (s : State) : (startBusReset s).xmem = s.xmem := by
  unfold startBusReset
  dsimp only
  (repeat' split) <;> simp
@[simp] theorem startBusReset_alerts_config (s : State) : (startBusReset s).alerts.config = s.alerts.config := by
  unfold startBusReset
  dsimp only
  (repeat' split) <;> simp
@[simp] theorem startBusReset_alerts_sense (s : State) : (startBusReset s).alerts.sense = s.alerts.sense := by
  unfold startBusReset
  dsimp only
  (repeat' split) <;> simp
@[simp] theorem startBusReset_alerts_inService (s : State) : (startBusReset s).alerts.inService = s.alerts.inService := by
  unfold startBusReset
  dsimp only
  (repeat' split) <;> simp
@[simp] theorem startBusReset_pending (s : State) : (startBusReset s).pending = s.pending := by
  unfold startBusReset
  dsimp only
  (repeat' split) <;> simp

/-! ### servedChannel -/

@[simp] theorem servedChannel_part (c : Channel) (s : State) : (servedChannel c s).part = s.part := rfl
@[simp] theorem servedChannel_port (c : Channel) (s : State) : (servedChannel c s).port = s.port := rfl
@[simp] theorem servedChannel_cfg (c : Channel) (s : State) : (servedChannel c s).cfg = s.cfg := rfl
@[simp] theorem servedChannel_profiles (c : Channel) (s : State) : (servedChannel c s).profiles = s.profiles := rfl
@[simp] theorem servedChannel_rq (c : Channel) (s : State) : (servedChannel c s).rq = s.rq := rfl
@[simp] theorem servedChannel_cq (c : Channel) (s : State) : (servedChannel c s).cq = s.cq := rfl
@[simp] theorem servedChannel_engine_share (c : Channel) (s : State) : (servedChannel c s).engine.share = s.engine.share := rfl
@[simp] theorem servedChannel_engine_pointer (c : Channel) (s : State) : (servedChannel c s).engine.pointer = s.engine.pointer := rfl
@[simp] theorem servedChannel_engine_divider (c : Channel) (s : State) : (servedChannel c s).engine.divider = s.engine.divider := rfl
@[simp] theorem servedChannel_engine_bus (c : Channel) (s : State) : (servedChannel c s).engine.bus = s.engine.bus := rfl
@[simp] theorem servedChannel_engine_run (c : Channel) (s : State) : (servedChannel c s).engine.run = s.engine.run := rfl
@[simp] theorem servedChannel_channels (c : Channel) (s : State) : (servedChannel c s).channels = s.channels := rfl
@[simp] theorem servedChannel_attn (c : Channel) (s : State) : (servedChannel c s).attn = s.attn := rfl
@[simp] theorem servedChannel_alerts_config (c : Channel) (s : State) : (servedChannel c s).alerts.config = s.alerts.config := rfl
@[simp] theorem servedChannel_alerts_sense (c : Channel) (s : State) : (servedChannel c s).alerts.sense = s.alerts.sense := rfl
@[simp] theorem servedChannel_alerts_inService (c : Channel) (s : State) : (servedChannel c s).alerts.inService = s.alerts.inService := rfl
@[simp] theorem servedChannel_alerts_haltedPending (c : Channel) (s : State) : (servedChannel c s).alerts.haltedPending = s.alerts.haltedPending := rfl
@[simp] theorem servedChannel_fault (c : Channel) (s : State) : (servedChannel c s).fault = s.fault := rfl
@[simp] theorem servedChannel_free (c : Channel) (s : State) : (servedChannel c s).free = s.free := rfl
@[simp] theorem servedChannel_pending (c : Channel) (s : State) : (servedChannel c s).pending = s.pending := rfl

/-! ### rangeCheck -/

@[simp] theorem rangeCheck_part (c : Channel) (k : Control) (s : State) : (rangeCheck c k s).part = s.part := by
  unfold rangeCheck
  dsimp only
  (repeat' split) <;> simp
@[simp] theorem rangeCheck_port (c : Channel) (k : Control) (s : State) : (rangeCheck c k s).port = s.port := by
  unfold rangeCheck
  dsimp only
  (repeat' split) <;> simp
@[simp] theorem rangeCheck_cfg (c : Channel) (k : Control) (s : State) : (rangeCheck c k s).cfg = s.cfg := by
  unfold rangeCheck
  dsimp only
  (repeat' split) <;> simp
@[simp] theorem rangeCheck_profiles (c : Channel) (k : Control) (s : State) : (rangeCheck c k s).profiles = s.profiles := by
  unfold rangeCheck
  dsimp only
  (repeat' split) <;> simp
@[simp] theorem rangeCheck_cq (c : Channel) (k : Control) (s : State) : (rangeCheck c k s).cq = s.cq := by
  unfold rangeCheck
  dsimp only
  (repeat' split) <;> simp
@[simp] theorem rangeCheck_engine_share (c : Channel) (k : Control) (s : State) : (rangeCheck c k s).engine.share = s.engine.share := by
  unfold rangeCheck
  dsimp only
  (repeat' split) <;> simp
@[simp] theorem rangeCheck_engine_pointer (c : Channel) (k : Control) (s : State) : (rangeCheck c k s).engine.pointer = s.engine.pointer := by
  unfold rangeCheck
  dsimp only
  (repeat' split) <;> simp
@[simp] theorem rangeCheck_engine_divider (c : Channel) (k : Control) (s : State) : (rangeCheck c k s).engine.divider = s.engine.divider := by
  unfold rangeCheck
  dsimp only
  (repeat' split) <;> simp
@[simp] theorem rangeCheck_xmem (c : Channel) (k : Control) (s : State) : (rangeCheck c k s).xmem = s.xmem := by
  unfold rangeCheck
  dsimp only
  (repeat' split) <;> simp
@[simp] theorem rangeCheck_attn (c : Channel) (k : Control) (s : State) : (rangeCheck c k s).attn = s.attn := by
  unfold rangeCheck
  dsimp only
  (repeat' split) <;> simp
@[simp] theorem rangeCheck_alerts_config (c : Channel) (k : Control) (s : State) : (rangeCheck c k s).alerts.config = s.alerts.config := by
  unfold rangeCheck
  dsimp only
  (repeat' split) <;> simp
@[simp] theorem rangeCheck_alerts_sense (c : Channel) (k : Control) (s : State) : (rangeCheck c k s).alerts.sense = s.alerts.sense := by
  unfold rangeCheck
  dsimp only
  (repeat' split) <;> simp
@[simp] theorem rangeCheck_alerts_inService (c : Channel) (k : Control) (s : State) : (rangeCheck c k s).alerts.inService = s.alerts.inService := by
  unfold rangeCheck
  dsimp only
  (repeat' split) <;> simp
@[simp] theorem rangeCheck_fault (c : Channel) (k : Control) (s : State) : (rangeCheck c k s).fault = s.fault := by
  unfold rangeCheck
  dsimp only
  (repeat' split) <;> simp
@[simp] theorem rangeCheck_free (c : Channel) (k : Control) (s : State) : (rangeCheck c k s).free = s.free := by
  unfold rangeCheck
  dsimp only
  (repeat' split) <;> simp
@[simp] theorem rangeCheck_pending (c : Channel) (k : Control) (s : State) : (rangeCheck c k s).pending = s.pending := by
  unfold rangeCheck
  dsimp only
  (repeat' split) <;> simp

/-! ### finishLoad -/

@[simp] theorem finishLoad_part (c : Channel) (a b d : Word) (s : State) : (finishLoad c a b d s).part = s.part := by
  unfold finishLoad
  (repeat' split) <;> simp
@[simp] theorem finishLoad_port (c : Channel) (a b d : Word) (s : State) : (finishLoad c a b d s).port = s.port := by
  unfold finishLoad
  (repeat' split) <;> simp
@[simp] theorem finishLoad_cfg (c : Channel) (a b d : Word) (s : State) : (finishLoad c a b d s).cfg = s.cfg := by
  unfold finishLoad
  (repeat' split) <;> simp
@[simp] theorem finishLoad_profiles (c : Channel) (a b d : Word) (s : State) : (finishLoad c a b d s).profiles = s.profiles := by
  unfold finishLoad
  (repeat' split) <;> simp
@[simp] theorem finishLoad_rq (c : Channel) (a b d : Word) (s : State) : (finishLoad c a b d s).rq = s.rq := by
  unfold finishLoad
  (repeat' split) <;> simp
@[simp] theorem finishLoad_cq (c : Channel) (a b d : Word) (s : State) : (finishLoad c a b d s).cq = s.cq := by
  unfold finishLoad
  (repeat' split) <;> simp
@[simp] theorem finishLoad_engine_share (c : Channel) (a b d : Word) (s : State) : (finishLoad c a b d s).engine.share = s.engine.share := by
  unfold finishLoad
  (repeat' split) <;> simp
@[simp] theorem finishLoad_engine_pointer (c : Channel) (a b d : Word) (s : State) : (finishLoad c a b d s).engine.pointer = s.engine.pointer := by
  unfold finishLoad
  (repeat' split) <;> simp
@[simp] theorem finishLoad_engine_divider (c : Channel) (a b d : Word) (s : State) : (finishLoad c a b d s).engine.divider = s.engine.divider := by
  unfold finishLoad
  (repeat' split) <;> simp
@[simp] theorem finishLoad_engine_bus (c : Channel) (a b d : Word) (s : State) : (finishLoad c a b d s).engine.bus = s.engine.bus := by
  unfold finishLoad
  (repeat' split) <;> simp
@[simp] theorem finishLoad_xmem (c : Channel) (a b d : Word) (s : State) : (finishLoad c a b d s).xmem = s.xmem := by
  unfold finishLoad
  (repeat' split) <;> simp
@[simp] theorem finishLoad_attn (c : Channel) (a b d : Word) (s : State) : (finishLoad c a b d s).attn = s.attn := by
  unfold finishLoad
  (repeat' split) <;> simp
@[simp] theorem finishLoad_alerts_config (c : Channel) (a b d : Word) (s : State) : (finishLoad c a b d s).alerts.config = s.alerts.config := by
  unfold finishLoad
  (repeat' split) <;> simp
@[simp] theorem finishLoad_alerts_sense (c : Channel) (a b d : Word) (s : State) : (finishLoad c a b d s).alerts.sense = s.alerts.sense := by
  unfold finishLoad
  (repeat' split) <;> simp
@[simp] theorem finishLoad_alerts_inService (c : Channel) (a b d : Word) (s : State) : (finishLoad c a b d s).alerts.inService = s.alerts.inService := by
  unfold finishLoad
  (repeat' split) <;> simp
@[simp] theorem finishLoad_fault (c : Channel) (a b d : Word) (s : State) : (finishLoad c a b d s).fault = s.fault := by
  unfold finishLoad
  (repeat' split) <;> simp
@[simp] theorem finishLoad_free (c : Channel) (a b d : Word) (s : State) : (finishLoad c a b d s).free = s.free := by
  unfold finishLoad
  (repeat' split) <;> simp
@[simp] theorem finishLoad_pending (c : Channel) (a b d : Word) (s : State) : (finishLoad c a b d s).pending = s.pending := by
  unfold finishLoad
  (repeat' split) <;> simp

/-! ### finishRollback -/

@[simp] theorem finishRollback_part (c : Channel) (e : WordEnd) (s : State) : (finishRollback c e s).part = s.part := by
  unfold finishRollback
  dsimp only
  (repeat' split) <;> simp
@[simp] theorem finishRollback_port (c : Channel) (e : WordEnd) (s : State) : (finishRollback c e s).port = s.port := by
  unfold finishRollback
  dsimp only
  (repeat' split) <;> simp
@[simp] theorem finishRollback_cfg (c : Channel) (e : WordEnd) (s : State) : (finishRollback c e s).cfg = s.cfg := by
  unfold finishRollback
  dsimp only
  (repeat' split) <;> simp
@[simp] theorem finishRollback_profiles (c : Channel) (e : WordEnd) (s : State) : (finishRollback c e s).profiles = s.profiles := by
  unfold finishRollback
  dsimp only
  (repeat' split) <;> simp
@[simp] theorem finishRollback_engine_share (c : Channel) (e : WordEnd) (s : State) : (finishRollback c e s).engine.share = s.engine.share := by
  unfold finishRollback
  dsimp only
  (repeat' split) <;> simp
@[simp] theorem finishRollback_engine_pointer (c : Channel) (e : WordEnd) (s : State) : (finishRollback c e s).engine.pointer = s.engine.pointer := by
  unfold finishRollback
  dsimp only
  (repeat' split) <;> simp
@[simp] theorem finishRollback_engine_divider (c : Channel) (e : WordEnd) (s : State) : (finishRollback c e s).engine.divider = s.engine.divider := by
  unfold finishRollback
  dsimp only
  (repeat' split) <;> simp
@[simp] theorem finishRollback_xmem (c : Channel) (e : WordEnd) (s : State) : (finishRollback c e s).xmem = s.xmem := by
  unfold finishRollback
  dsimp only
  (repeat' split) <;> simp
@[simp] theorem finishRollback_alerts_config (c : Channel) (e : WordEnd) (s : State) : (finishRollback c e s).alerts.config = s.alerts.config := by
  unfold finishRollback
  dsimp only
  (repeat' split) <;> simp
@[simp] theorem finishRollback_alerts_sense (c : Channel) (e : WordEnd) (s : State) : (finishRollback c e s).alerts.sense = s.alerts.sense := by
  unfold finishRollback
  dsimp only
  (repeat' split) <;> simp
@[simp] theorem finishRollback_alerts_inService (c : Channel) (e : WordEnd) (s : State) : (finishRollback c e s).alerts.inService = s.alerts.inService := by
  unfold finishRollback
  dsimp only
  (repeat' split) <;> simp
@[simp] theorem finishRollback_pending (c : Channel) (e : WordEnd) (s : State) : (finishRollback c e s).pending = s.pending := by
  unfold finishRollback
  dsimp only
  (repeat' split) <;> simp

/-! ### loadAccess -/

@[simp] theorem loadAccess_part (c : Channel) (l : LoadStep) (s : State) : (loadAccess c l s).part = s.part := by
  unfold loadAccess
  dsimp only
  (repeat' split) <;> simp
@[simp] theorem loadAccess_port (c : Channel) (l : LoadStep) (s : State) : (loadAccess c l s).port = s.port := by
  unfold loadAccess
  dsimp only
  (repeat' split) <;> simp
@[simp] theorem loadAccess_cfg (c : Channel) (l : LoadStep) (s : State) : (loadAccess c l s).cfg = s.cfg := by
  unfold loadAccess
  dsimp only
  (repeat' split) <;> simp
@[simp] theorem loadAccess_profiles (c : Channel) (l : LoadStep) (s : State) : (loadAccess c l s).profiles = s.profiles := by
  unfold loadAccess
  dsimp only
  (repeat' split) <;> simp
@[simp] theorem loadAccess_rq (c : Channel) (l : LoadStep) (s : State) : (loadAccess c l s).rq = s.rq := by
  unfold loadAccess
  dsimp only
  (repeat' split) <;> simp
@[simp] theorem loadAccess_cq (c : Channel) (l : LoadStep) (s : State) : (loadAccess c l s).cq = s.cq := by
  unfold loadAccess
  dsimp only
  (repeat' split) <;> simp
@[simp] theorem loadAccess_engine_share (c : Channel) (l : LoadStep) (s : State) : (loadAccess c l s).engine.share = s.engine.share := by
  unfold loadAccess
  dsimp only
  (repeat' split) <;> simp
@[simp] theorem loadAccess_engine_pointer (c : Channel) (l : LoadStep) (s : State) : (loadAccess c l s).engine.pointer = s.engine.pointer := by
  unfold loadAccess
  dsimp only
  (repeat' split) <;> simp
@[simp] theorem loadAccess_engine_divider (c : Channel) (l : LoadStep) (s : State) : (loadAccess c l s).engine.divider = s.engine.divider := by
  unfold loadAccess
  dsimp only
  (repeat' split) <;> simp
@[simp] theorem loadAccess_engine_bus (c : Channel) (l : LoadStep) (s : State) : (loadAccess c l s).engine.bus = s.engine.bus := by
  unfold loadAccess
  dsimp only
  (repeat' split) <;> simp
@[simp] theorem loadAccess_xmem (c : Channel) (l : LoadStep) (s : State) : (loadAccess c l s).xmem = s.xmem := by
  unfold loadAccess
  dsimp only
  (repeat' split) <;> simp
@[simp] theorem loadAccess_attn (c : Channel) (l : LoadStep) (s : State) : (loadAccess c l s).attn = s.attn := by
  unfold loadAccess
  dsimp only
  (repeat' split) <;> simp
@[simp] theorem loadAccess_alerts_config (c : Channel) (l : LoadStep) (s : State) : (loadAccess c l s).alerts.config = s.alerts.config := by
  unfold loadAccess
  dsimp only
  (repeat' split) <;> simp
@[simp] theorem loadAccess_alerts_sense (c : Channel) (l : LoadStep) (s : State) : (loadAccess c l s).alerts.sense = s.alerts.sense := by
  unfold loadAccess
  dsimp only
  (repeat' split) <;> simp
@[simp] theorem loadAccess_alerts_inService (c : Channel) (l : LoadStep) (s : State) : (loadAccess c l s).alerts.inService = s.alerts.inService := by
  unfold loadAccess
  dsimp only
  (repeat' split) <;> simp
@[simp] theorem loadAccess_fault (c : Channel) (l : LoadStep) (s : State) : (loadAccess c l s).fault = s.fault := by
  unfold loadAccess
  dsimp only
  (repeat' split) <;> simp
@[simp] theorem loadAccess_free (c : Channel) (l : LoadStep) (s : State) : (loadAccess c l s).free = s.free := by
  unfold loadAccess
  dsimp only
  (repeat' split) <;> simp
@[simp] theorem loadAccess_pending (c : Channel) (l : LoadStep) (s : State) : (loadAccess c l s).pending = s.pending := by
  unfold loadAccess
  dsimp only
  (repeat' split) <;> simp

/-! ### wordAccess -/

@[simp] theorem wordAccess_part (c : Channel) (k : Control) (w : WordStep) (s : State) : (wordAccess c k w s).part = s.part := by
  unfold wordAccess
  dsimp only
  (repeat' split) <;> simp
@[simp] theorem wordAccess_port (c : Channel) (k : Control) (w : WordStep) (s : State) : (wordAccess c k w s).port = s.port := by
  unfold wordAccess
  dsimp only
  (repeat' split) <;> simp
@[simp] theorem wordAccess_cfg (c : Channel) (k : Control) (w : WordStep) (s : State) : (wordAccess c k w s).cfg = s.cfg := by
  unfold wordAccess
  dsimp only
  (repeat' split) <;> simp
@[simp] theorem wordAccess_profiles (c : Channel) (k : Control) (w : WordStep) (s : State) : (wordAccess c k w s).profiles = s.profiles := by
  unfold wordAccess
  dsimp only
  (repeat' split) <;> simp
@[simp] theorem wordAccess_engine_share (c : Channel) (k : Control) (w : WordStep) (s : State) : (wordAccess c k w s).engine.share = s.engine.share := by
  unfold wordAccess
  dsimp only
  (repeat' split) <;> simp
@[simp] theorem wordAccess_engine_pointer (c : Channel) (k : Control) (w : WordStep) (s : State) : (wordAccess c k w s).engine.pointer = s.engine.pointer := by
  unfold wordAccess
  dsimp only
  (repeat' split) <;> simp
@[simp] theorem wordAccess_engine_divider (c : Channel) (k : Control) (w : WordStep) (s : State) : (wordAccess c k w s).engine.divider = s.engine.divider := by
  unfold wordAccess
  dsimp only
  (repeat' split) <;> simp
@[simp] theorem wordAccess_alerts_config (c : Channel) (k : Control) (w : WordStep) (s : State) : (wordAccess c k w s).alerts.config = s.alerts.config := by
  unfold wordAccess
  dsimp only
  (repeat' split) <;> simp
@[simp] theorem wordAccess_alerts_sense (c : Channel) (k : Control) (w : WordStep) (s : State) : (wordAccess c k w s).alerts.sense = s.alerts.sense := by
  unfold wordAccess
  dsimp only
  (repeat' split) <;> simp
@[simp] theorem wordAccess_alerts_inService (c : Channel) (k : Control) (w : WordStep) (s : State) : (wordAccess c k w s).alerts.inService = s.alerts.inService := by
  unfold wordAccess
  dsimp only
  (repeat' split) <;> simp
@[simp] theorem wordAccess_pending (c : Channel) (k : Control) (w : WordStep) (s : State) : (wordAccess c k w s).pending = s.pending := by
  unfold wordAccess
  dsimp only
  (repeat' split) <;> simp

/-! ### channelAccess -/

@[simp] theorem channelAccess_part (c : Channel) (s : State) : (channelAccess c s).part = s.part := by
  unfold channelAccess
  dsimp only
  (repeat' split) <;> simp
@[simp] theorem channelAccess_port (c : Channel) (s : State) : (channelAccess c s).port = s.port := by
  unfold channelAccess
  dsimp only
  (repeat' split) <;> simp
@[simp] theorem channelAccess_cfg (c : Channel) (s : State) : (channelAccess c s).cfg = s.cfg := by
  unfold channelAccess
  dsimp only
  (repeat' split) <;> simp
@[simp] theorem channelAccess_profiles (c : Channel) (s : State) : (channelAccess c s).profiles = s.profiles := by
  unfold channelAccess
  dsimp only
  (repeat' split) <;> simp
@[simp] theorem channelAccess_engine_share (c : Channel) (s : State) : (channelAccess c s).engine.share = s.engine.share := by
  unfold channelAccess
  dsimp only
  (repeat' split) <;> simp
@[simp] theorem channelAccess_engine_pointer (c : Channel) (s : State) : (channelAccess c s).engine.pointer = s.engine.pointer := by
  unfold channelAccess
  dsimp only
  (repeat' split) <;> simp
@[simp] theorem channelAccess_engine_divider (c : Channel) (s : State) : (channelAccess c s).engine.divider = s.engine.divider := by
  unfold channelAccess
  dsimp only
  (repeat' split) <;> simp
@[simp] theorem channelAccess_alerts_config (c : Channel) (s : State) : (channelAccess c s).alerts.config = s.alerts.config := by
  unfold channelAccess
  dsimp only
  (repeat' split) <;> simp
@[simp] theorem channelAccess_alerts_sense (c : Channel) (s : State) : (channelAccess c s).alerts.sense = s.alerts.sense := by
  unfold channelAccess
  dsimp only
  (repeat' split) <;> simp
@[simp] theorem channelAccess_alerts_inService (c : Channel) (s : State) : (channelAccess c s).alerts.inService = s.alerts.inService := by
  unfold channelAccess
  dsimp only
  (repeat' split) <;> simp
@[simp] theorem channelAccess_pending (c : Channel) (s : State) : (channelAccess c s).pending = s.pending := by
  unfold channelAccess
  dsimp only
  (repeat' split) <;> simp

end Sys2Proof.Machine
end

