-- ==== Sys2Proof/Laws/Memory.lean ====
section
/-! SUPPORT. The exchange memory's words: reading after a write, and the canonical form kept by every memory operation. -/

namespace Sys2Proof.Machine

/-- An address below every listed one reads 0000h. -/
theorem Memory.read_of_lt {m : Memory} {a : Nat} (h : ∀ x ∈ m, a < x.1) : Memory.read m a = 0 := by
  induction m with
  | nil => rfl
  | cons x rest ih =>
    have hx := h x (by simp)
    have ih := ih fun y hy => h y (by simp [hy])
    simp [Memory.read, ih]
    omega

/-- Reading back the word just put, in a memory of rising addresses. -/
theorem Memory.read_put_same {m : Memory} (h : m.Pairwise fun x y => x.1 < y.1) (a : Nat) (w : Word) :
    Memory.read (Memory.put m a w) a = w := by
  induction m with
  | nil => by_cases hw : w = 0#16 <;> simp [Memory.put, Memory.read, hw]
  | cons x rest ih =>
    obtain ⟨k, v⟩ := x
    rw [List.pairwise_cons] at h
    simp only [Memory.put]
    split
    · rename_i hlt
      split
      · rename_i hw
        rw [hw]
        exact Memory.read_of_lt fun y hy => by
          rcases List.mem_cons.mp hy with rfl | hy
          · exact hlt
          · exact lt_trans hlt (h.1 y hy)
      · simp [Memory.read]
    · split
      · rename_i _ heq
        split
        · rename_i hw
          rw [hw, heq]
          exact Memory.read_of_lt fun y hy => h.1 y hy
        · simp [Memory.read]
      · rename_i hne
        have : k ≠ a := fun e => hne e.symm
        simp [Memory.read, this, ih h.2]

/-- Every other address reads as before. -/
theorem Memory.read_put_other (m : Memory) {a b : Nat} (w : Word) (hab : b ≠ a) :
    Memory.read (Memory.put m a w) b = Memory.read m b := by
  induction m with
  | nil => by_cases hw : w = 0#16 <;> simp [Memory.put, Memory.read, hw, hab.symm]
  | cons x rest ih =>
    obtain ⟨k, v⟩ := x
    simp only [Memory.put]
    split
    · split <;> simp [Memory.read, hab.symm]
    · split
      · rename_i _ heq
        subst heq
        split <;> simp [Memory.read, hab.symm]
      · simp [Memory.read, ih]

/-- The addresses of a memory after a put are the old ones and the one put. -/
theorem Memory.mem_put {m : Memory} {a : Nat} {w : Word} {x : Nat × Word} (h : x ∈ Memory.put m a w) :
    x ∈ m ∨ (x = (a, w) ∧ w ≠ 0) := by
  induction m with
  | nil =>
    simp only [Memory.put] at h
    split at h
    · exact Or.inl h
    · rename_i hw
      exact Or.inr ⟨List.mem_singleton.mp h, hw⟩
  | cons y rest ih =>
    obtain ⟨k, v⟩ := y
    simp only [Memory.put] at h
    split at h
    · split at h
      · exact Or.inl h
      · rename_i hw
        rcases List.mem_cons.mp h with h | h
        · exact Or.inr ⟨h, hw⟩
        · exact Or.inl h
    · split at h
      · split at h
        · exact Or.inl (List.mem_cons_of_mem _ h)
        · rename_i hw
          rcases List.mem_cons.mp h with h | h
          · exact Or.inr ⟨h, hw⟩
          · exact Or.inl (List.mem_cons_of_mem _ h)
      · rcases List.mem_cons.mp h with h | h
        · exact Or.inl (by simp [h])
        · exact (ih h).imp (List.mem_cons_of_mem _) id

/-- Addresses stay rising. -/
theorem Memory.put_pairwise {m : Memory} (h : m.Pairwise fun x y => x.1 < y.1) (a : Nat) (w : Word) :
    (Memory.put m a w).Pairwise fun x y => x.1 < y.1 := by
  induction m with
  | nil => by_cases hw : w = 0#16 <;> simp [Memory.put, hw]
  | cons x rest ih =>
    obtain ⟨k, v⟩ := x
    have hc := List.pairwise_cons.mp h
    simp only [Memory.put]
    split
    · rename_i hlt
      split
      · exact h
      · refine List.pairwise_cons.mpr ⟨fun y hy => ?_, h⟩
        rcases List.mem_cons.mp hy with rfl | hy
        · exact hlt
        · exact lt_trans hlt (hc.1 y hy)
    · rename_i hlt
      split
      · rename_i heq
        subst heq
        split
        · exact hc.2
        · exact List.pairwise_cons.mpr ⟨hc.1, hc.2⟩
      · rename_i hne
        refine List.pairwise_cons.mpr ⟨fun y hy => ?_, ih hc.2⟩
        rcases Memory.mem_put hy with hy | ⟨rfl, _⟩
        · exact hc.1 y hy
        · change k < a
          omega

/-- A write keeps the canonical form. -/
theorem Memory.write_wf {m : Memory} (h : Memory.wf m) (a : Nat) (w : Word) : Memory.wf (Memory.write m a w) := by
  unfold Memory.write
  split
  · rename_i ha
    refine ⟨Memory.put_pairwise h.1 a w, fun x hx => ?_⟩
    rcases Memory.mem_put hx with hx | ⟨rfl, hw⟩
    · exact h.2 x hx
    · exact ⟨hw, ha⟩
  · exact h

/-- Reading back the word just written. -/
theorem Memory.read_write_same {m : Memory} (h : Memory.wf m) {a : Nat} (ha : a < 4096) (w : Word) :
    Memory.read (Memory.write m a w) a = w := by
  simp [Memory.write, ha, Memory.read_put_same h.1]

/-- Every other address reads as before the write. -/
theorem Memory.read_write_other (m : Memory) {a b : Nat} (w : Word) (hab : b ≠ a) :
    Memory.read (Memory.write m a w) b = Memory.read m b := by
  unfold Memory.write
  split
  · exact Memory.read_put_other m w hab
  · rfl

/-- Clearing words keeps the canonical form. -/
theorem Memory.clear_wf {m : Memory} (h : Memory.wf m) (start n : Nat) : Memory.wf (Memory.clear m start n) := by
  induction n generalizing m start with
  | zero => exact h
  | succ n ih => exact ih (Memory.write_wf h start 0) (start + 1)

/-- What is read after clearing words: 0000h in the range cleared, and elsewhere as before. -/
theorem Memory.read_clear {m : Memory} (h : Memory.wf m) (start n b : Nat) (hb : start + n ≤ 4096) :
    Memory.read (Memory.clear m start n) b = if start ≤ b ∧ b < start + n then 0 else Memory.read m b := by
  induction n generalizing m start with
  | zero =>
    simp only [Memory.clear]
    rw [if_neg (by omega)]
  | succ n ih =>
    simp only [Memory.clear]
    rw [ih (Memory.write_wf h start 0) (start + 1) (by omega)]
    by_cases hs : b = start
    · subst hs
      rw [if_neg (by omega), if_pos (by omega), Memory.read_write_same h (by omega)]
    · rw [Memory.read_write_other m 0 hs]
      by_cases h1 : start + 1 ≤ b ∧ b < start + 1 + n
      · rw [if_pos h1, if_pos (by omega)]
      · rw [if_neg h1, if_neg (by omega)]

/-- A memory given word by word is canonical. -/
theorem Memory.ofWords_wf (f : Nat → Word) {n : Nat} (hn : n ≤ 4096) : Memory.wf (Memory.ofWords f n) := by
  constructor
  · refine List.Pairwise.filterMap _ ?_ (List.pairwise_lt_range (n := n))
    intro a b hab x hx y hy
    split at hx
    · simp at hx
    · split at hy
      · simp at hy
      · obtain rfl := Option.some.inj hx
        obtain rfl := Option.some.inj hy
        exact hab
  · intro x hx
    obtain ⟨a, ha, he⟩ := List.mem_filterMap.mp hx
    split at he
    · simp at he
    · rename_i h0
      obtain rfl := Option.some.inj he
      exact ⟨h0, lt_of_lt_of_le (List.mem_range.mp ha) hn⟩

/-- The empty memory is canonical. -/
theorem Memory.nil_wf : Memory.wf [] := by simp [Memory.wf]

end Sys2Proof.Machine
end

