-- ==== Sys2Proof/Laws/Cases.lean ====
section
/-! SUPPORT. The shared operations case by case: what each one answers under the condition that decides it. -/

namespace Sys2Proof.Machine

/-! ### Commands and INIT (R194) -/

/-- During INIT a command is not performed. -/
theorem windowCommand_init (body : State → State) {s : State} (h : s.inInit = true) : windowCommand body s = s.setResult .init := by
  simp [windowCommand, h]

/-- Outside INIT a command takes its effects. -/
theorem windowCommand_performed (body : State → State) {s : State} (h : s.inInit = false) : windowCommand body s = body s := by
  simp [windowCommand, h]

/-- During INIT a write of another location is ignored. -/
theorem unlessInit_init (body : State → State) {s : State} (h : s.inInit = true) : unlessInit body s = s := by
  simp [unlessInit, h]

/-- Outside INIT the write stores. -/
theorem unlessInit_performed (body : State → State) {s : State} (h : s.inInit = false) : unlessInit body s = body s := by
  simp [unlessInit, h]

/-! ### Run state (R93, R98) -/

/-- With halt-on-error clear a trigger changes nothing. -/
theorem haltTrigger_clear {s : State} (h : s.cfg.haltOnError = false) : haltTrigger s = s := by
  simp [haltTrigger, h]

/-- A trigger on a halted engine changes nothing. -/
theorem haltTrigger_halted {s : State} (h : s.engine.run = .halted) : haltTrigger s = s := by
  simp [haltTrigger, h]

/-- The end of bus work of a running engine leaves it running on an idle bus. -/
theorem endBusWork_running {s : State} (h : s.engine.run = .running) : endBusWork s = s.setBus .idle := by
  simp [endBusWork, workEnded, h]

/-- The end of bus work halts a stopping engine. -/
theorem endBusWork_stopping {s : State} (h : s.engine.run = .stopping) : endBusWork s = enterHalted (s.setBus .idle) := by
  simp [endBusWork, workEnded, h]

/-- The end of bus work takes the step. -/
theorem endBusWork_stepping {s : State} (h : s.engine.run = .stepping) : endBusWork s = enterHalted (s.setBus .idle) := by
  simp [endBusWork, workEnded, h]

/-- The end of bus work leaves the bus idle. -/
@[simp] theorem endBusWork_engine_bus (s : State) : (endBusWork s).engine.bus = .idle := by
  simp only [endBusWork]
  unfold workEnded
  split <;> simp [enterHalted]

/-! ### Fault record (R185) -/

/-- An empty record takes the fault. -/
theorem writeFault_empty (k : FaultKind) (n : Option Station) {s : State} (h : s.fault = none) :
    (writeFault k n s).fault = some { kind := k, station := n, more := false } := by
  simp [writeFault, h]

/-- A full record keeps its fault and sets more. -/
theorem writeFault_full (k : FaultKind) (n : Option Station) {s : State} {f : FaultEntry} (h : s.fault = some f) :
    (writeFault k n s).fault = some { f with more := true } := by
  simp [writeFault, h]

/-! ### Slots of the Block Channels (R113) -/

/-- The first channel after a pointer that a test takes, in the order of the rotation. -/
theorem roundRobin_find (f : Channel → Bool) (p : Channel) (k : Fin 4) (h : f (p + 1 + k) = true)
    (hb : ∀ j : Fin 4, j < k → f (p + 1 + j) = false) : (roundRobin p).find? f = some (p + 1 + k) := by
  have e : ∀ q : Channel, q + 1 + 0 = q + 1 ∧ q + 1 + 1 = q + 2 ∧ q + 1 + 2 = q + 3 ∧ q + 1 + 3 = q := by decide
  obtain ⟨e0, e1, e2, e3⟩ := e p
  have b0 := hb 0
  have b1 := hb 1
  have b2 := hb 2
  rw [e0] at b0
  rw [e1] at b1
  rw [e2] at b2
  unfold roundRobin
  match k with
  | 0 => rw [e0] at h ⊢; simp only [List.find?_cons, h]
  | 1 => rw [e1] at h ⊢; simp only [List.find?_cons, h, b0 (by decide)]
  | 2 => rw [e2] at h ⊢; simp only [List.find?_cons, h, b0 (by decide), b1 (by decide)]
  | 3 => rw [e3] at h ⊢; simp only [List.find?_cons, h, b0 (by decide), b1 (by decide), b2 (by decide)]

/-- The channel offered is the first after the rotation pointer that waits. -/
theorem offeredChannel_first {s : State} (k : Fin 4) (h : wantsMemory (s.channels[s.xmem.rotation + 1 + k]).state = true)
    (hb : ∀ j : Fin 4, j < k → wantsMemory (s.channels[s.xmem.rotation + 1 + j]).state = false) :
    offeredChannel s = some (s.xmem.rotation + 1 + k) :=
  roundRobin_find (fun c => wantsMemory (s.channels[c]).state) s.xmem.rotation k h hb

/-- Nothing is offered where no channel waits. -/
theorem offeredChannel_none {s : State} (h : ∀ c : Channel, wantsMemory (s.channels[c]).state = false) :
    offeredChannel s = none := by
  unfold offeredChannel
  rw [List.find?_eq_none]
  intro c _
  simp only [h c]
  decide

/-- The offered channel waits for the memory. -/
theorem offeredChannel_waits {s : State} {c : Channel} (h : offeredChannel s = some c) :
    wantsMemory (s.channels[c]).state = true := by
  have h1 := List.find?_some h
  exact h1

/-- The slot serves the offered channel. -/
theorem channelsSlot_serves {s : State} {c : Channel} (h : offeredChannel s = some c) : channelsSlot s = channelAccess c s := by
  simp only [channelsSlot, h]

/-- What every access of every channel keeps, a slot keeps. -/
theorem channelsSlot_keeps {P : State → Prop} {s : State} (hacc : ∀ (c : Channel) (t : State), P t → P (channelAccess c t))
    (hs : P s) : P (channelsSlot s) := by
  unfold channelsSlot
  split
  · exact hacc _ s hs
  · exact hs

/-- Without slots nothing is served. -/
@[simp] theorem serveSlots_zero (inStep : ChState → Bool) (c : Channel) (s : State) : serveSlots inStep c 0 s = s := rfl

/-- A channel outside the step takes no slot. -/
theorem serveSlots_stop (inStep : ChState → Bool) (c : Channel) (n : Nat) {s : State}
    (h : inStep (s.channels[c]).state = false) : serveSlots inStep c n s = s := by
  cases n with
  | zero => rfl
  | succ n => rw [serveSlots, if_neg (by rw [h]; decide)]

/-- While the channel stands in the step a slot goes to the offered channel. -/
theorem serveSlots_next (inStep : ChState → Bool) (c : Channel) (n : Nat) {s : State}
    (h : inStep (s.channels[c]).state = true) :
    serveSlots inStep c (n + 1) s = serveSlots inStep c n (channelsSlot s) := by
  rw [serveSlots, if_pos h]

/-- Slots add up. -/
theorem serveSlots_add (inStep : ChState → Bool) (c : Channel) (m n : Nat) (s : State) :
    serveSlots inStep c (m + n) s = serveSlots inStep c n (serveSlots inStep c m s) := by
  induction m generalizing s with
  | zero => simp
  | succ m ih =>
    by_cases h : inStep (s.channels[c]).state = true
    · rw [Nat.succ_add, serveSlots_next _ _ _ h, serveSlots_next _ _ _ h, ih]
    · have h' : inStep (s.channels[c]).state = false := by simpa using h
      rw [serveSlots_stop _ _ _ h', serveSlots_stop _ _ _ h', serveSlots_stop _ _ _ h']

/-- What every access of every channel keeps, the slots keep. -/
theorem serveSlots_keeps {P : State → Prop} (inStep : ChState → Bool) (c : Channel) (n : Nat) {s : State}
    (hacc : ∀ (d : Channel) (t : State), P t → P (channelAccess d t)) (hs : P s) : P (serveSlots inStep c n s) := by
  induction n generalizing s with
  | zero => exact hs
  | succ n ih =>
    simp only [serveSlots]
    split
    · exact ih (channelsSlot_keeps hacc hs)
    · exact hs

/-- The slots leave the queue of commands as it is. -/
@[simp] theorem serveSlots_pending (inStep : ChState → Bool) (c : Channel) (n : Nat) (s : State) :
    (serveSlots inStep c n s).pending = s.pending :=
  serveSlots_keeps (P := fun t => t.pending = s.pending) inStep c n (fun d t h => by simp [h]) rfl

/-- The slots leave the window port as it is. -/
@[simp] theorem serveSlots_port (inStep : ChState → Bool) (c : Channel) (n : Nat) (s : State) :
    (serveSlots inStep c n s).port = s.port :=
  serveSlots_keeps (P := fun t => t.port = s.port) inStep c n (fun d t h => by simp [h]) rfl

/-- The slots leave the profiles as they are. -/
@[simp] theorem serveSlots_profiles (inStep : ChState → Bool) (c : Channel) (n : Nat) (s : State) :
    (serveSlots inStep c n s).profiles = s.profiles :=
  serveSlots_keeps (P := fun t => t.profiles = s.profiles) inStep c n (fun d t h => by simp [h]) rfl

/-- The slots leave CONFIG as it is. -/
@[simp] theorem serveSlots_cfg (inStep : ChState → Bool) (c : Channel) (n : Nat) (s : State) :
    (serveSlots inStep c n s).cfg = s.cfg :=
  serveSlots_keeps (P := fun t => t.cfg = s.cfg) inStep c n (fun d t h => by simp [h]) rfl

/-- The slots leave the phase of the part as it is. -/
@[simp] theorem serveSlots_part (inStep : ChState → Bool) (c : Channel) (n : Nat) (s : State) :
    (serveSlots inStep c n s).part = s.part :=
  serveSlots_keeps (P := fun t => t.part = s.part) inStep c n (fun d t h => by simp [h]) rfl

/-! ### The arbiter (R112) -/

/-- Without a channel ahead the window is served at once, with RDY not held back. -/
theorem windowTurn_alone {running : Bool} {s : State} (h : channelAhead running s = none) :
    windowTurn running s = s.setHeld false := by
  simp [windowTurn, h]

/-- A channel ahead is served first, for one access, with RDY held back. -/
theorem windowTurn_waits {running : Bool} {s : State} {c : Channel} (h : channelAhead running s = some c) :
    windowTurn running s = (channelAccess c s).setHeld true := by
  simp [windowTurn, h]

/-- Where the Block Channels were served last, a claim that finds no access running is served at once. -/
theorem channelAhead_after_channels {s : State} (h : s.xmem.lastServed = .channels) : channelAhead false s = none := by
  simp [channelAhead, h]

/-- Where no channel waits the window is served at once. -/
theorem channelAhead_none {running : Bool} {s : State} (h : offeredChannel s = none) : channelAhead running s = none := by
  simp [channelAhead, h]

/-- An access that runs as the claim arrives comes first. -/
theorem channelAhead_running (s : State) : channelAhead true s = offeredChannel s := by
  simp [channelAhead]

/-- Where the window was served last, a waiting channel comes first. -/
theorem channelAhead_after_window {running : Bool} {s : State} (h : s.xmem.lastServed = .window) :
    channelAhead running s = offeredChannel s := by
  simp [channelAhead, h]

/-! ### The memory of a channel's access -/

/-- A channel's access keeps the canonical form of the memory. -/
theorem channelAccess_memory {c : Channel} {s : State} (h : Memory.wf s.xmem.mem) : Memory.wf (channelAccess c s).xmem.mem := by
  unfold channelAccess
  dsimp only
  (repeat' split) <;> try exact h
  · rw [loadAccess_xmem]
    exact h
  · unfold wordAccess
    dsimp only
    (repeat' split) <;> try simp only [State.setChannel_xmem, State.setMem_xmem, startRollback_xmem, rangeCheck_xmem,
      channelAck_xmem, finishRollback_xmem]
    all_goals first | exact h | exact Memory.write_wf h _ _

end Sys2Proof.Machine
end

