-- ==== Sys2Proof/Laws/PerInstr.lean ====
section
/-! SUPPORT. Statements made for every command, one lemma each. -/

namespace Sys2Proof.Laws.CommandCode

/-- A command with a code is well formed, and bits 15-8 of its code are 0 (R194, Table 1 of spec/11). -/
def Statement (i : Instr) : Prop := ∀ w, encodeCommand i = some w → i.wf = true ∧ w.toNat < 256

theorem run : Statement .run := by
  intro w h
  obtain rfl := Option.some.inj h
  decide
theorem stop : Statement .stop := by
  intro w h
  obtain rfl := Option.some.inj h
  decide
theorem step : Statement .step := by
  intro w h
  obtain rfl := Option.some.inj h
  decide
theorem flush : Statement .flush := by
  intro w h
  obtain rfl := Option.some.inj h
  decide
theorem busReset : Statement .busReset := by
  intro w h
  obtain rfl := Option.some.inj h
  decide
theorem clearFault : Statement .clearFault := by
  intro w h
  obtain rfl := Option.some.inj h
  decide
theorem softReset : Statement .softReset := by
  intro w h
  obtain rfl := Option.some.inj h
  decide
theorem post : Statement .post := by
  intro w h
  obtain rfl := Option.some.inj h
  decide
theorem pop : Statement .pop := by
  intro w h
  obtain rfl := Option.some.inj h
  decide
theorem profApply : Statement .profApply := by
  intro w h
  obtain rfl := Option.some.inj h
  decide
theorem profLoad : Statement .profLoad := by
  intro w h
  obtain rfl := Option.some.inj h
  decide
theorem srcApply : Statement .srcApply := by
  intro w h
  obtain rfl := Option.some.inj h
  decide
theorem srcLoad : Statement .srcLoad := by
  intro w h
  obtain rfl := Option.some.inj h
  decide
theorem take : Statement .take := by
  intro w h
  obtain rfl := Option.some.inj h
  decide
theorem endService : Statement .endService := by
  intro w h
  obtain rfl := Option.some.inj h
  decide
theorem arm : Statement .arm := by
  intro w h
  obtain rfl := Option.some.inj h
  decide
theorem chStop : Statement .chStop := by
  intro w h
  obtain rfl := Option.some.inj h
  decide
theorem chAck : Statement .chAck := by
  intro w h
  obtain rfl := Option.some.inj h
  decide
theorem unknownCmd (x0 : Word) : Statement (.unknownCmd x0) := by
  intro w h
  exact absurd h (by simp [encodeCommand])
theorem mdataRead (x0 : Bool) : Statement (.mdataRead x0) := by
  intro w h
  exact absurd h (by simp [encodeCommand])
theorem mdataWrite (x0 : Word) (x1 : Bool) : Statement (.mdataWrite x0 x1) := by
  intro w h
  exact absurd h (by simp [encodeCommand])
theorem configWrite (x0 : Word) : Statement (.configWrite x0) := by
  intro w h
  exact absurd h (by simp [encodeCommand])
theorem attnCfgWrite (x0 : Word) : Statement (.attnCfgWrite x0) := by
  intro w h
  exact absurd h (by simp [encodeCommand])
theorem windowWrite (x0 : BitVec 5) (x1 : Word) : Statement (.windowWrite x0 x1) := by
  intro w h
  exact absurd h (by simp [encodeCommand])
theorem resetAssert (x0 : Nat) : Statement (.resetAssert x0) := by
  intro w h
  exact absurd h (by simp [encodeCommand])
theorem resetDeassert : Statement .resetDeassert := by
  intro w h
  exact absurd h (by simp [encodeCommand])
theorem clearSweepEnd : Statement .clearSweepEnd := by
  intro w h
  exact absurd h (by simp [encodeCommand])
theorem satnAssertion : Statement .satnAssertion := by
  intro w h
  exact absurd h (by simp [encodeCommand])
theorem satnDeassertion : Statement .satnDeassertion := by
  intro w h
  exact absurd h (by simp [encodeCommand])
theorem dispatchChoice : Statement .dispatchChoice := by
  intro w h
  exact absurd h (by simp [encodeCommand])
theorem responseWindowExpiry : Statement .responseWindowExpiry := by
  intro w h
  exact absurd h (by simp [encodeCommand])
theorem holdLimitReached : Statement .holdLimitReached := by
  intro w h
  exact absurd h (by simp [encodeCommand])
theorem cycleEnd : Statement .cycleEnd := by
  intro w h
  exact absurd h (by simp [encodeCommand])
theorem backoffExpiry (x0 : Station) : Statement (.backoffExpiry x0) := by
  intro w h
  exact absurd h (by simp [encodeCommand])
theorem busResetIntervalEnd : Statement .busResetIntervalEnd := by
  intro w h
  exact absurd h (by simp [encodeCommand])
theorem dividerTakesEffect : Statement .dividerTakesEffect := by
  intro w h
  exact absurd h (by simp [encodeCommand])
theorem identifyIntervalLapse : Statement .identifyIntervalLapse := by
  intro w h
  exact absurd h (by simp [encodeCommand])
theorem ccbLoad (x0 : Service) : Statement (.ccbLoad x0) := by
  intro w h
  exact absurd h (by simp [encodeCommand])
theorem channelCountStep (x0 : Service) : Statement (.channelCountStep x0) := by
  intro w h
  exact absurd h (by simp [encodeCommand])
theorem channelAddressStep (x0 : Service) : Statement (.channelAddressStep x0) := by
  intro w h
  exact absurd h (by simp [encodeCommand])
theorem channelDataStep (x0 : Service) : Statement (.channelDataStep x0) := by
  intro w h
  exact absurd h (by simp [encodeCommand])
theorem channelRollback (x0 : Service) : Statement (.channelRollback x0) := by
  intro w h
  exact absurd h (by simp [encodeCommand])
theorem stationResponse (x0 : BitVec 2) : Statement (.stationResponse x0) := by
  intro w h
  exact absurd h (by simp [encodeCommand])
theorem byteTransfer (x0 : Byte) (x1 : Bool) : Statement (.byteTransfer x0 x1) := by
  intro w h
  exact absurd h (by simp [encodeCommand])
theorem senseSample (x0 : Bool) : Statement (.senseSample x0) := by
  intro w h
  exact absurd h (by simp [encodeCommand])
theorem answerCheckSample (x0 : Byte) (x1 : Bool) (x2 : Byte) (x3 : Bool) : Statement (.answerCheckSample x0 x1 x2 x3) := by
  intro w h
  exact absurd h (by simp [encodeCommand])
theorem settlePeriodsBegin : Statement .settlePeriodsBegin := by
  intro w h
  exact absurd h (by simp [encodeCommand])
theorem inDataWrite (x0 : Service) : Statement (.inDataWrite x0) := by
  intro w h
  exact absurd h (by simp [encodeCommand])

end Sys2Proof.Laws.CommandCode
end

