-- ==== Sys2Proof/Tests/Slice0.lean ====
section
/-! SUPPORT. Tests: the operand checks, one small step of each command, and for each statement of Certificates/Slice0 with
hypotheses a concrete state that meets them. -/

open Sys2Proof Sys2Proof.Machine

namespace Sys2Proof.Tests

/-! ### Small states -/

/-- The state after a command. -/
def after (c : Instr) (s : State) : State :=
  match exec c s with
  | .next t => t
  | .fault _ => s
  | .refused _ => s

/-- RUNNING, with station 1 enabled. -/
def on : State :=
  { State.reset with
    engine := { Engine.reset with run := .running }
    profiles := State.reset.profiles.set 0 { Profile.reset with enabled := true } }

/-- RESET# asserted. -/
def held : State := { State.reset with part := .resetAsserted, engine := { Engine.reset with bus := .resetting 1 false } }

/-- INIT. -/
def sweeping : State := { held with part := .init 9 }

/-- A bus reset interval in its k-th period. -/
def interval (k : Nat) : State := on.setBus (.resetting k false)

/-- Argument words. -/
def args (a b : Word) (s : State) : State := { s with port := { s.port with arg0 := a, arg1 := b } }

/-- A WRITE of ABCDh to register 2 of station 1, tag 5. -/
def write5 : Request := { tag := 5, body := .write 0 2 0xABCD false, state := .waiting, defers := 0, reserved := false }

/-- The same, dispatched. -/
def active5 : Request := { write5 with state := .active, reserved := true }

/-- A state with one request record. -/
def queued (r : Request) : State :=
  { on with
    rq := { on.rq with records := [r] }
    cq := { on.cq with reserved := if r.reserved then 1 else 0, tags := on.cq.tags.set r.tag.toNat true } }

/-- The staged submission of a kind to a station. -/
def staged (kind : BitVec 3) (station : BitVec 5) (operand : Byte) : State :=
  { on with
    port := { on.port with
      sub := { kind := kind, silent := false, tag := 5, station := station, operand := operand, data := 0xABCD } } }

/-- A completion at the head. -/
def head5 : Completion := { tag := 5, kind := .read, station := some 0, status := .ok, defers := 15, data := 0x1234 }

/-- A state with one completion. -/
def done : State := { on with cq := { on.cq with records := [head5], tags := on.cq.tags.set 5 true } }

/-- A cycle of station 1 in a phase. -/
def cyc (x : Phase) : Cycle :=
  { captured := some { window := 2, hold := 1, spacing := 2, parity := true }, phase := x, hold := 0 }

/-- Bus work of an owner. -/
def work (o : Owner) (k : CycleKind) (c : Option Cycle) : BusWork :=
  { owner := o, kind := k, station := some 0, operand := 2, data := 0xABCD, cycle := c }

/-- The request of tag 5 on the bus, in a phase. -/
def inCycle (k : CycleKind) (x : Phase) : State := (queued active5).setBus (.cycle (work (.queue 5) k (some (cyc x))))

/-- An IDENTIFY on the bus, SATN# asserted, with e empty answers before. -/
def identify (e : Nat) (x : Phase) : State :=
  { on.setBus (.cycle { owner := .attention, kind := .identify, station := none, operand := 0, data := 0
                        cycle := some { captured := none, phase := x, hold := 0 } }) with
    attn := { Attention.reset with satn := true, mark := true, emptyAnswers := e } }

/-- Working control of a word to register 2 of station 1. -/
def ctl (out paced hold : Bool) : Control :=
  { station := 0, offset := 2, out := out, paced := paced, hold := hold, notify := true }

/-- A channel record on the CCB at 010h. -/
def chan (k : Control) (x : ChState) (count addr : Option Word) : ChannelRec :=
  { ChannelRec.reset with state := x, ccb := 0x10, control := some k, link := some 0, keptCount := count, keptAddress := addr }

/-- Channel 2 in a state, with the memory given. -/
def withChannel (m : Memory) (r : ChannelRec) : State := ((on.setMem m).setChannel 2 r)

/-- Channel 2's word holds the bus. -/
def onWord (m : Memory) (r : ChannelRec) (c : Option Cycle) : State :=
  (withChannel m r).setBus (.cycle (work (.channel 2) .write c))

/-- A CCB at 010h: control 1A02h (station 1, OUT, HOLD), count FFFFh, address 0100h, link 0. -/
def ccb : Memory := [(0x10, 0x1A02#16), (0x11, 0xFFFF#16), (0x12, 0x0100#16)]

/-! ### Operands -/

theorem test_unknownCmd_with_a_code_is_ill_formed : Instr.wf (.unknownCmd 0x01#16) = false := by decide
theorem test_windowWrite_of_cmd_is_ill_formed : Instr.wf (.windowWrite 0x02#5 0) = false := by decide
theorem test_resetAssert_of_no_period_is_ill_formed : Instr.wf (.resetAssert 0) = false := by decide
theorem test_stationResponse_of_silence_is_ill_formed : Instr.wf (.stationResponse 0#2) = false := by decide
theorem test_well_formed_operands :
    (Instr.wf (.unknownCmd 0x08#16) && Instr.wf (.windowWrite 0x03#5 7) && Instr.wf (.resetAssert 1) &&
      Instr.wf (.stationResponse 3#2) && Instr.wf .run) = true := by decide
theorem test_command_words :
    decodeCommand 0x0001#16 = some .run ∧ decodeCommand 0x002A#16 = some .chAck ∧ decodeCommand 0x0121#16 = none ∧
      decodeCommand 0x0000#16 = none ∧ decodeTableWord 16 1 = none := by decide

/-! ### One step of each command -/

theorem test_run : windowRead (after .run State.reset) 0x01#5 = 0x0000#16 := by decide
theorem test_stop : (after .stop (inCycle .write .select1)).engine.run = .stopping ∧ (after .stop on).engine.run = .halted := by
  decide
theorem test_step : (after .step State.reset).engine.run = .stepping ∧ (after .step on).port.result = .badState := by decide
theorem test_flush : (after .flush (queued write5)).rq.records = [] ∧ (after .flush (queued write5)).port.arg2 = 1 := by decide
theorem test_busReset : (after .busReset on).engine.bus = .resetting 1 false ∧ (after .busReset (interval 3)).port.result = .already := by
  decide
theorem test_clearFault :
    (after .clearFault { on with fault := some { kind := .busHang, station := some 0, more := true } }).fault = none := by decide
theorem test_softReset : windowRead (after .softReset done) 0x01#5 = 0x5000#16 := by decide
theorem test_post : (after .post (staged 1 1 2)).rq.records = [write5] := by decide
theorem test_post_refused : (after .post (staged 3 1 0x08)).port.result = .badField := by decide
theorem test_pop : (after .pop done).cq.records = [] ∧ (after .pop on).port.result = .empty := by decide
theorem test_profApply :
    ((after .profApply { on with port := { on.port with profSel := 3, prof := { Profile.reset with enabled := true } } }).profiles[2]).enabled = true := by
  decide
theorem test_profLoad : (after .profLoad { on with port := { on.port with profSel := 1 } }).port.prof.enabled = true := by decide
theorem test_srcApply :
    (after .srcApply { on with port := { on.port with srcSel := 16, src := { routing := 1, sense := .edge, priority := 4 } } }).lineOf
      Source.completion = some 0 := by decide
theorem test_srcLoad : (after .srcLoad { on with port := { on.port with srcSel := 18 } }).port.src.sense = .level := by decide
theorem test_arm : ((after .arm (args 2 0x0FFC on)).channels[2]).state = .loading .control := by decide
theorem test_arm_refused : (after .arm (args 2 0x0FFD on)).port.result = .badField := by decide
theorem test_chStop : ((after .chStop (args 2 0 (withChannel [] (chan (ctl true false false) .active none none)))).channels[2]).state = .ended := by
  decide
theorem test_chAck : ((after .chAck (args 2 0 (withChannel [] { ChannelRec.reset with endFlag := true }))).channels[2]).endFlag = false := by
  decide
theorem test_unknownCmd : (after (.unknownCmd 0x0102#16) on).port.result = .unknownCmd := by decide
theorem test_mdataRead :
    (after (.mdataRead false) { on with xmem := { on.xmem with mem := [(0xFFF, 7#16)], mptr := 0xFFF } }).port.readData = 7 := by decide
/-- A count read runs as the claim arrives, granted after a channel was served last: RDY is held and the window comes next. -/
theorem test_mdataRead_finds_a_running_access :
    let s := after (.mdataRead true) (onWord ccb (chan (ctl true false true) (.moving .countRead) none none) none)
    s.port.rdyHeld = true ∧ (s.channels[2]).state = .moving .countWrite ∧ s.xmem.lastServed = .window ∧ s.xmem.mptr = 1 := by decide
theorem test_mdataWrite : (after (.mdataWrite 9 false) on).xmem = { on.xmem with mem := [(0, 9#16)], mptr := 1, lastServed := .window } := by
  decide
/-- A host write to the count word between the count read and the count write is lost (R144). -/
theorem test_mdataWrite_between_read_and_write_is_lost :
    let s := onWord ccb (chan (ctl true false true) (.moving .countRead) none none) none
    let t := after (.channelCountStep ⟨2, 1⟩) { s with xmem := { s.xmem with mptr := 0x11 } }
    Memory.read (after (.mdataWrite 7 false) t).xmem.mem 0x11 = 7 ∧
      Memory.read (after (.channelCountStep ⟨2, 1⟩) (after (.mdataWrite 7 false) t)).xmem.mem 0x11 = 0 := by decide
theorem test_configWrite : windowRead (after (.configWrite 0xFFFF#16) on) 0x1C#5 = 0xF17F#16 := by decide
theorem test_attnCfgWrite : windowRead (after (.attnCfgWrite 0xFF00#16) on) 0x1D#5 = 0x0001#16 := by decide
theorem test_windowWrite : windowRead (after (.windowWrite 0x06#5 0xFFFF#16) on) 0x06#5 = 0x873F#16 := by decide
theorem test_resetAssert : (after (.resetAssert 4) on).part = .resetAsserted ∧ (after (.resetAssert 4) held).free = 0 := by decide
theorem test_resetDeassert : (after .resetDeassert held).part = .init 0 := by decide
theorem test_clearSweepEnd :
    (after .clearSweepEnd sweeping).part = .running ∧ windowRead (after .clearSweepEnd sweeping) 0x01#5 = 0x4000#16 := by decide
theorem test_satnAssertion : windowRead (after .satnAssertion on) 0x17#5 = 0x0001#16 := by decide
theorem test_satnDeassertion : windowRead (after .satnDeassertion (identify 2 .select1)) 0x17#5 = 0x0000#16 := by decide
theorem test_dispatchChoice : (after .dispatchChoice (queued write5)).busy = true ∧ (after .dispatchChoice on) = on := by decide
theorem test_responseWindowExpiry :
    after .responseWindowExpiry (inCycle .read .select2) = inCycle .read (.ending .noResponse) := by decide
theorem test_stationResponse : after (.stationResponse 1#2) (inCycle .read (.response 2)) = inCycle .read .turnaround := by decide
theorem test_byteTransfer :
    after (.byteTransfer 0x34 true) (inCycle .read (.dataLow 0x12 false)) = inCycle .read (.ending (.parity 0x1234)) := by decide
theorem test_holdLimitReached : (after .holdLimitReached (inCycle .write .dataHigh)).engine.bus =
    .cycle (work (.queue 5) .write (some { cyc (.ending .busHang) with hold := 16 })) := by decide
theorem test_senseSample : after (.senseSample true) (inCycle .control (.sense 2)) = inCycle .control (.ending (.ack (some 1))) := by
  decide
theorem test_answerCheckSample :
    after (.answerCheckSample 0 true 0x02 false) (identify 0 (.answer 4)) = identify 0 (.ending (.answer 0x0002)) := by decide
theorem test_cycleEnd : (after .cycleEnd (inCycle .write (.ending (.ack none)))).cq.records =
    [{ tag := 5, kind := .write, station := some 0, status := .ok, defers := 0, data := 0 }] := by decide
theorem test_cycleEnd_hang :
    let s := inCycle .write (.ending .busHang)
    let t := after .cycleEnd { s with cfg := { s.cfg with divider := 9 } }
    t.engine.bus = .resetting 1 false ∧ t.engine.divider = 9 := by decide
theorem test_backoffExpiry :
    (after (.backoffExpiry 0) ((queued { active5 with state := .backoff }).setBackoff 0 (some 1))).rq.records =
      [{ active5 with state := .waiting }] := by decide
theorem test_busResetIntervalEnd : (after .busResetIntervalEnd (interval 64)).engine.bus = .idle := by decide
theorem test_settlePeriodsBegin : (after .settlePeriodsBegin (interval 32)).engine.bus = .resetting 33 false := by decide
theorem test_dividerTakesEffect :
    (after .dividerTakesEffect { on with cfg := { on.cfg with divider := 9 } }).engine.divider = 9 := by decide
theorem test_identifyIntervalLapse :
    (after .identifyIntervalLapse { on with attn := { on.attn with timer := .running 1 } }).attn.timer = .lapsed := by decide
theorem test_ccbLoad :
    let l : ChannelRec := { ChannelRec.reset with state := .loading .control, ccb := 0x10 }
    ((after (.ccbLoad ⟨2, 3⟩) (withChannel ccb l)).channels[2]).state = .active ∧
      ((after (.ccbLoad ⟨2, 3⟩) (withChannel [] l)).channels[2]).reason = .badCcb := by decide
/-- Channel 2 was served last, so channel 3 has the next slot (R113). -/
theorem test_slots_go_in_rotation :
    let l : ChannelRec := { ChannelRec.reset with state := .loading .control, ccb := 0x10 }
    let s := (withChannel ccb l).setChannel 3 l
    let t := after (.ccbLoad ⟨2, 1⟩) { s with xmem := { s.xmem with rotation := 2 } }
    (t.channels[2]).state = .loading .control ∧ (t.channels[3]).state = .loading (.count 0x1A02) ∧ t.xmem.rotation = 3 ∧
      ((after (.ccbLoad ⟨2, 5⟩) t).channels[2]).state = .active := by decide
theorem test_channelCountStep :
    (after (.channelCountStep ⟨2, 2⟩) (onWord ccb (chan (ctl true false true) (.moving .countRead) none none) none)).xmem.mem =
      [(0x10, 0x1A02#16), (0x12, 0x0100#16)] := by decide
theorem test_channelAddressStep :
    ((after (.channelAddressStep ⟨2, 2⟩) (onWord ccb (chan (ctl true false true) (.moving .addrRead) (some 0xFFFF) none) none)).channels[2]).state =
      .moving .outRead := by decide
theorem test_channelDataStep :
    ((after (.channelDataStep ⟨2, 0⟩) (onWord ccb (chan (ctl false false true) (.moving (.ask none)) (some 1) (some 1)) none)).channels[2]).state =
      .moving .inCycle := by decide
theorem test_inDataWrite :
    (after (.inDataWrite ⟨2, 1⟩) (onWord [] (chan (ctl false false false) (.moving (.inWrite 7)) (some 1) (some 0xFFE)) none)).xmem.mem =
      [(0xFFF, 7#16)] := by decide
theorem test_channelRollback :
    (after (.channelRollback ⟨2, 2⟩) (onWord [] (chan (ctl true false false) (.moving (.rollCount (.fault .range))) (some 3) (some 4)) none)).xmem.mem =
      [(0x11, 3#16), (0x12, 4#16)] := by decide
theorem test_take_and_end :
    let s := after .srcApply { done with port := { done.port with srcSel := 16, src := { routing := 1, sense := .edge, priority := 4 } } }
    let t := after .take s
    t.port.arg2 = 16 ∧ alertAsserted s 0 = true ∧ alertAsserted t 0 = false ∧ inServiceOn t 0 Source.completion = true ∧
      inServiceOn (after .endService t) 0 Source.completion = false := by decide
theorem test_pins :
    (pins (inCycle .write .select1)).sad = some 0x11#8 ∧ (pins (inCycle .write .select1)).spar = some true ∧
      (pins (inCycle .control (.pulse [.sk2] 2))).sk2 = false ∧ (pins (inCycle .control (.pulse [.sk2] 3))).sk2 = true ∧
      (pins (interval 32)).srst = true ∧ (pins (interval 33)).srst = false := by decide
theorem test_empty_queue_counts : (tick (on.setBackoff 0 (some 2))).rq.backoff[0] = some 1 := by decide
theorem test_step_takes_the_front : step { on with pending := [.stop, .run] } = exec .stop { on with pending := [.run] } := rfl

/-! ### Witnesses: states that meet the hypotheses of each statement, clause by clause -/

theorem witness_StepRunsFrontCommand : ({ on with pending := [.run, .stop] } : State).pending = .run :: [.stop] := rfl
theorem witness_EmptyQueuePeriod :
    (on.pending = [] ∧ on.engine.bus = .idle ∧ (∀ k f, on.engine.bus ≠ .resetting k f) ∧ (∀ k, on.part ≠ .init k)) ∧
      (∀ k ∈ [1, 31, 32, 33, 63, 64],
        (interval k).pending = [] ∧ (interval k).engine.bus = .resetting k false ∧ (interval k).part ≠ .resetAsserted) ∧
      (held.pending = [] ∧ held.part = .resetAsserted ∧ held.engine.bus = .resetting 1 false) ∧
      (∀ k ∈ [0, 4091, 4094, 4095],
        let s := { sweeping with part := .init k }
        s.pending = [] ∧ s.part = .init k ∧ k ≤ 4095 ∧ Memory.wf s.xmem.mem) ∧
      (∀ x ∈ [WordStep.rollCount (.defer 0), .rollAddr (.defer 7)],
        let s := onWord [] (chan (ctl true false false) (.moving x) (some 1) (some 1)) none
        s.pending = [] ∧ (s.channels[(2 : Channel)]).state = .moving x ∧ s.engine.bus = .cycle (work (.channel 2) .write none)) ∧
      (∀ n, (on.channels[(2 : Channel)]).state ≠ .moving (.rollCount (.defer n))) := by
  exact ⟨⟨by decide, by decide, fun _ _ h => Bus.noConfusion h, fun _ h => PartPhase.noConfusion h⟩, by decide, by decide,
    by decide, by decide, fun _ h => ChState.noConfusion h⟩
theorem witness_PeriodOfCycle :
    (∀ x ∈ [Phase.select1, .select2, .turnaround, .response 1, .response 2, .sense 1, .sense 2, .pulse [.sk1] 2, .pulse [.sk1] 3,
        .pulse [.sk1, .sk4] 3, .dataHigh, .dataLow 1 true, .answer 3, .answer 4, .ending .defer],
      (inCycle .read x).pending = [] ∧ (inCycle .read x).engine.bus = .cycle (work (.queue 5) .read (some (cyc x))) ∧
        (cyc x).phase = x ∧ (cyc x).captured.isSome = true) ∧
      (identify 0 .select1).pending = [] ∧ (identify 0 (.answer 4)).busy = true := by decide
theorem witness_PeriodOfCycle_lines :
    on.engine.bus = .idle ∧ (onWord [] (chan (ctl true false false) (.moving .countRead) none none) none).engine.bus =
        .cycle (work (.channel 2) .write none) ∧
      (∀ k ∈ [1, 32, 33, 64], (interval k).engine.bus = .resetting k false) ∧
      (on.setBus (.resetting 1 true)).engine.bus = .resetting 1 true ∧ held.part = .resetAsserted ∧
      (∀ k ∈ [CycleKind.write, .read, .control],
        ∀ x ∈ [Phase.select1, .select2, .response 1, .turnaround, .dataHigh, .dataLow 1 true, .pulse [.sk1] 3, .sense 1, .answer 1,
            .ending (.ack none), .ending (.parity 7), .ending .busHang, .ending .defer, .ending .protocol, .ending .noResponse],
          (inCycle k x).engine.bus = .cycle (work (.queue 5) k (some (cyc x))) ∧ (work (.queue 5) k (some (cyc x))).kind = k ∧
            (cyc x).captured.map (fun p => p.spacing.toNat + 1) = some 3) := by decide
theorem witness_WindowDuringInit :
    sweeping.inInit = true ∧ held.inInit = true ∧ encodeCommand .post = some 0x10#16 ∧ isActionLocation 0x1F#5 = false ∧
      (0x00#5 : BitVec 5) ≠ 0x01#5 := by decide
theorem witness_OtherWindowWrites :
    on.inInit = false ∧ decodeCommand 0x0008#16 = none ∧ decodeCommand 0x0107#16 = none ∧ decodeCommand 0x002A#16 = some .chAck := by
  decide
theorem witness_StatusAndHeadFields :
    ({ on with rq := { on.rq with records := List.replicate 16 write5 } } : State).rq.records.length ≤ 16 ∧
      on.cq.records.length ≤ 16 ∧ done.inInit = false ∧ done.cq.records = [head5] ∧ head5.defers ≤ 15 := by decide
theorem witness_StatusAndHeadFields_sources :
    let s (m : BitVec 5) : State := { on with port := { on.port with srcSel := m } }
    (s 0).inInit = false ∧ (s 0).port.srcSel = 0#5 ∧ 19 < (s 20).port.srcSel.toNat ∧
      (s 15).port.srcSel.toNat = Source.number (Station.source 14) ∧ (s 16).port.srcSel.toNat = Source.number Source.completion ∧
      (s 19).port.srcSel.toNat = Source.number Source.halted ∧ (on.channels[on.port.chSel]).defers ≤ 15 ∧ on.fault = none ∧
      ({ on with fault := some { kind := .busHang, station := some 14, more := true } } : State).fault ≠ none := by decide
theorem witness_EmptyHeadReads : on.inInit = false ∧ on.cq.records = [] ∧ done.inInit = false ∧ done.cq.records = [head5] := by decide
theorem witness_PlainLocationsStore :
    on.inInit = false ∧ ((0x18#5, 0x0003#16) : BitVec 5 × Word) ∈ [(0x03#5, 0xFFFF#16), (0x18#5, 0x0003#16)] ∧
      (0x03#5 : BitVec 5) ≠ 0x18#5 ∧ ((0xFFFF#16 : Word).extractLsb' 0 2).toNat = (3 : Channel).val ∧
      ((0xFFFC#16 : Word).extractLsb' 0 2).toNat = (0 : Channel).val := by decide
theorem witness_ConfigWriteStores : on.inInit = false := by decide
theorem witness_IdentifyIntervalStored :
    on.inInit = false ∧ sweeping.inInit = true ∧ on.part ≠ .resetAsserted ∧ sweeping.part ≠ .resetAsserted ∧ 4 ≤ 4 := by decide
theorem witness_MemoryReadsLastWrite : Memory.wf ccb ∧ Memory.wf [] ∧ 4095 < 4096 ∧ (0 : Nat) ≠ 4095 := by decide
theorem witness_MdataAccess :
    let s := onWord ccb (chan (ctl true false true) (.moving .countRead) none none) none
    let t := { s with xmem := { s.xmem with lastServed := .window } }
    s.inInit = false ∧ s.xmem.lastServed = .channels ∧ (∀ c : Channel, wantsMemory (on.channels[c]).state = false) ∧ turnOf s 2 ∧
      t.inInit = false ∧ t.xmem.lastServed = .window ∧ turnOf t 2 := by decide
theorem witness_RunStopStep :
    on.inInit = false ∧ on.engine.run ≠ .halted ∧ State.reset.inInit = false ∧ State.reset.engine.run = .halted := by decide
theorem witness_FlushRemovesRecords :
    sweeping.inInit = true ∧ (queued write5).inInit = false ∧ (queued write5).cq.tags[(5 : Tag).toNat] = true ∧
      ∀ r ∈ (queued active5).rq.records, r.state ≠ .active → r.tag ≠ 5 := by decide
theorem witness_PostQueuesRequest :
    sweeping.inInit = true ∧ on.inInit = false ∧ (¬ ∃ b, on.port.sub.asksFor b) ∧
      (staged 1 15 2).port.sub.asksFor (.write 14 2 0xABCD false) ∧ (staged 2 1 2).port.sub.asksFor (.read 0 2) ∧
      (staged 3 1 0x09).port.sub.asksFor (.control 0 1) ∧ (staged 4 0 0).port.sub.asksFor .fence ∧
      (staged 4 0 0).cq.tags[(staged 4 0 0).port.sub.tag.toNat] = false ∧ (staged 4 0 0).rq.records.length < 16 ∧
      (let s := { staged 4 0 0 with cq := (queued write5).cq };
        s.port.sub.asksFor .fence ∧ s.cq.tags[s.port.sub.tag.toNat] = true) ∧
      (let s := { staged 4 0 0 with rq := { on.rq with records := List.replicate 16 write5 } };
        s.port.sub.asksFor .fence ∧ s.cq.tags[s.port.sub.tag.toNat] = false ∧ 16 ≤ s.rq.records.length) := by
  refine ⟨by decide, by decide, ?_, ?_, ?_, ?_, ?_, by decide, by decide, ⟨?_, by decide⟩, ⟨?_, by decide, by decide⟩⟩
  · rintro ⟨b, h | h | h | h⟩ <;> exact absurd h.1 (by decide)
  · exact Or.inl ⟨rfl, 14, by decide, rfl⟩
  · exact Or.inr (Or.inl ⟨rfl, 0, by decide, rfl⟩)
  · exact Or.inr (Or.inr (Or.inl ⟨rfl, by decide, 0, by decide, rfl⟩))
  · exact Or.inr (Or.inr (Or.inr ⟨rfl, rfl⟩))
  · exact Or.inr (Or.inr (Or.inr ⟨rfl, rfl⟩))
  · exact Or.inr (Or.inr (Or.inr ⟨rfl, rfl⟩))
theorem witness_PopRemovesHead :
    sweeping.inInit = true ∧ on.inInit = false ∧ on.cq.records = [] ∧ done.inInit = false ∧ done.cq.records = [head5] := by decide
theorem witness_TimersExpire :
    (on.setBackoff 14 (some 1)).rq.backoff[(14 : Station)] = some 1 ∧ on.rq.backoff[(14 : Station)] = none ∧
      ({ on with attn := { on.attn with timer := .running 1 } } : State).attn.timer = .running 1 ∧
      (∀ k, on.attn.timer ≠ .running k) := by
  exact ⟨by decide, by decide, rfl, fun _ h => IntervalTimer.noConfusion h⟩
theorem witness_ProfApplyCopiesOrRefuses :
    let s (n : BitVec 5) (p : Profile) : State := { on with port := { on.port with profSel := n, prof := p } }
    (s 0 Profile.reset).inInit = false ∧ (s 0 Profile.reset).port.profSel = 0#5 ∧ 15 < (s 16 Profile.reset).port.profSel.toNat ∧
      ¬ (s 1 { Profile.reset with registerCount := 257 }).port.prof.inRanges ∧ (s 1 Profile.reset).port.prof.inRanges ∧
      (s 1 Profile.reset).port.profSel.toNat = Station.number 0 ∧ ((s 1 Profile.reset).profiles[(0 : Station)]).enabled = true ∧
      (s 15 Profile.reset).port.profSel.toNat = Station.number 14 := by decide
theorem witness_LoadCommandsCopy :
    let s (n m : BitVec 5) : State := { on with port := { on.port with profSel := n, srcSel := m } }
    (s 0 0).inInit = false ∧ sweeping.inInit = true ∧ (s 0 0).port.profSel = 0#5 ∧ 15 < (s 16 20).port.profSel.toNat ∧
      19 < (s 16 20).port.srcSel.toNat ∧ (s 15 19).port.profSel.toNat = Station.number 14 ∧
      (s 15 19).port.srcSel.toNat = Source.number Source.halted ∧ (s 15 1).port.srcSel.toNat = Source.number 0 := by decide
/-- A state that stages a source configuration, source 1 in service on line 1. -/
def sources (n : BitVec 5) (route : BitVec 3) : State :=
  { on with
    port := { on.port with srcSel := n, src := { routing := route, sense := .level, priority := 7 } }
    alerts := { on.alerts with
      config := on.alerts.config.set 0 { routing := .line 1, priority := 2 }
      inService := on.alerts.inService.set 1 ((on.alerts.inService[1]).set 0 true) } }
theorem witness_SrcApplyConfigures :
    sweeping.inInit = true ∧ (sources 0 1).inInit = false ∧ (sources 0 1).port.srcSel = 0#5 ∧ 19 < (sources 20 1).port.srcSel.toNat ∧
      (sources 1 3).port.src.routing = 3#3 ∧ (16 ≤ (sources 16 4).port.srcSel.toNat ∧ 4 ≤ (sources 16 4).port.src.routing.toNat) ∧
      ((sources 1 4).port.srcSel.toNat = Source.number 0 ∧ (sources 1 4).port.src.routing ≠ 3#3 ∧ ¬ 16 ≤ Source.number 0 ∧
        inServiceOn (sources 1 4) 1 0 = true) ∧
      ((sources 15 7).port.srcSel.toNat = Source.number 14 ∧ (Routing.channel 3).code = (sources 15 7).port.src.routing ∧
        ¬ 16 ≤ Source.number 14 ∧ (∀ l : Line, inServiceOn (sources 15 7) l 14 = false)) ∧
      ((sources 16 2).port.srcSel.toNat = Source.number Source.completion ∧ (Routing.line 1).code = (sources 16 2).port.src.routing ∧
        (Routing.line 1).isChannel = false ∧ (∀ l : Line, inServiceOn (sources 16 2) l Source.completion = false)) := by decide
/-- Source 19 pending on line 0. -/
def haltedAlert : State :=
  { on with
    alerts := { on.alerts with
      config := on.alerts.config.set 18 { routing := .line 0, priority := 3 }, haltedPending := true } }
theorem witness_TakeAndEnd :
    sweeping.inInit = true ∧ (args 0 0 on).inInit = false ∧ 1 < (args 2 0 on).port.arg0.toNat ∧ 19 < (args 1 20 on).port.arg1.toNat ∧
      ((args 1 0 on).port.arg0.toNat = (1 : Line).val ∧ presented (args 1 0 on) 1 = none) ∧
      ((args 0 0 haltedAlert).port.arg0.toNat = (0 : Line).val ∧ presented (args 0 0 haltedAlert) 0 = some Source.halted) ∧
      (args 1 19 on).port.arg1.toNat = Source.number Source.halted ∧ (args 1 1 on).port.arg1.toNat = Source.number 0 ∧
      ((args 1 0 (sources 1 1)).port.arg1 = 0#16 ∧ inServiceOn (args 1 0 (sources 1 1)) 1 0 = true ∧
        (∀ y : Source, inServiceOn (args 1 0 (sources 1 1)) 1 y = true → y ≠ 0 →
          sourcePriority (args 1 0 (sources 1 1)) y < sourcePriority (args 1 0 (sources 1 1)) 0)) ∧
      (∀ x : Source, inServiceOn (args 1 0 on) 1 x = false) := by decide
theorem witness_FaultRecordWrittenAndCleared : sweeping.inInit = true ∧ on.inInit = false := by decide
theorem witness_ChannelCommands :
    let s (x : ChState) : State := args 3 0x0FFC (on.setChannel 3 { ChannelRec.reset with state := x })
    (s .idle).inInit = false ∧ 3 < (args 4 0 on).port.arg0.toNat ∧ (s .idle).port.arg0.toNat = (3 : Channel).val ∧
      ((s .active).channels[(3 : Channel)]).state.isLoadingOrActive = true ∧
      ((s (.moving .countRead)).channels[(3 : Channel)]).state.isMoving = true ∧
      ((s .idle).channels[(3 : Channel)]).state = .idle ∧ ((s .ended).channels[(3 : Channel)]).state = .ended ∧
      ((s .faulted).channels[(3 : Channel)]).state = .faulted ∧ 0xFFC < (args 3 0x0FFD on).port.arg1.toNat ∧
      (s .idle).port.arg1.toNat ≤ 0xFFC ∧ ((s .active).channels[(3 : Channel)]).state = .active ∧
      ((s (.loading .control)).channels[(3 : Channel)]).state = .loading .control := by decide
theorem witness_SatnEdges : on.attn.satn = false ∧ (identify 0 .select1).attn.satn = true := by decide
/-- An IDENTIFY in END with an answer, after e empty ones. -/
def answered (e : Nat) (w : Word) : State := identify e (.ending (.answer w))
theorem witness_IdentifyOutcomeTaken :
    (∀ e ∈ [0, 2, 3], (answered e 0).attn.satn = true ∧ (answered e 0).attn.emptyAnswers = e ∧
      (answered e 0).engine.bus = .cycle
        { owner := .attention, kind := .identify, station := none, operand := 0, data := 0
          cycle := some { captured := none, phase := .ending (.answer 0), hold := 0 } }) ∧
      ((answered 3 2).profiles[(0 : Station)]).enabled = true ∧ (2#16).getLsbD (Station.number 0) = true ∧
      (¬ ∃ n : Station, ((answered 3 0xFFFC).profiles[n]).enabled = true ∧ (0xFFFC#16).getLsbD n.number = true) ∧
      (({ answered 0 2 with attn := { Attention.reset with satn := false } } : State).attn.satn = false) ∧
      (identify 0 (.ending .identifyParity)).engine.bus = .cycle
        { owner := .attention, kind := .identify, station := none, operand := 0, data := 0
          cycle := some { captured := none, phase := .ending .identifyParity, hold := 0 } } := by decide
/-- The stations of an answer, by routing and sense. -/
def routed (r : Routing) (x : Sense) : State :=
  { answered 0 2 with
    alerts := { Alerts.reset with
      config := Alerts.reset.config.set 0 { routing := r, priority := 0 }, sense := Alerts.reset.sense.set 0 x } }
theorem witness_IdentifyOutcomeTaken_by_routing :
    ((routed (.channel 3) .edge).alerts.config[(Station.source 0)]).routing.isChannel = true ∧
      ((routed (.line 1) .edge).alerts.config[(Station.source 0)]).routing.toLine.isSome = true ∧
      ((routed (.line 1) .edge).alerts.sense[(0 : Station)]) = .edge ∧ ((routed (.line 1) .level).alerts.sense[(0 : Station)]) = .level ∧
      ((routed .masked .edge).alerts.config[(Station.source 0)]).routing.toLine = none ∧
      ((routed .masked .edge).profiles[(1 : Station)]).enabled = false := by decide
theorem witness_DispatchGrantsIdentifyFirst :
    ¬ mayDispatch State.reset ∧ ¬ mayDispatch (interval 1) ∧ ¬ mayDispatch sweeping ∧
      (¬ dueIdentify on ∧ candidate on = none ∧ nextChannel on = none) ∧
      (let s := { on with attn := { on.attn with satn := true, mark := true, timer := .lapsed } }; mayDispatch s ∧ dueIdentify s) ∧
      (let s := { on with attn := { on.attn with satn := true } }; mayDispatch s ∧ dueIdentify s) := by decide
/-- An ACTIVE channel 2 to station 1, a request waiting behind, and the share counter at k. -/
def shared (k : Nat) : State :=
  let s := (queued write5).setChannel 2 (chan (ctl true false false) .active none none)
  { s with engine := { s.engine with share := k } }
theorem witness_OffersOfQueueAndChannels :
    candidate (queued write5) = some write5 ∧ (queued write5).rq.records = [] ++ write5 :: [] ∧ nextChannel (shared 0) = some 2 ∧
      (2 : Channel) = (shared 0).engine.pointer + 1 + 2 ∧ nextChannel on = none := by decide
theorem witness_DispatchGrantsChannelWord :
    mayDispatch (shared 3) ∧ ¬ dueIdentify (shared 3) ∧ nextChannel (shared 3) = some 2 ∧
      ((shared 3).channels[(2 : Channel)]).control = some (ctl true false false) ∧
      (shared 3).engine.share < (shared 3).cfg.share.toNat + 1 ∧ (candidate (shared 3)).isSome = true ∧
      candidate { shared 8 with rq := RequestQueue.reset } = none ∧ nextChannel { shared 8 with rq := RequestQueue.reset } = some 2 := by
  decide
theorem witness_DispatchGrantsRequest :
    (mayDispatch (queued write5) ∧ ¬ dueIdentify (queued write5) ∧ candidate (queued write5) = some write5 ∧
      nextChannel (queued write5) = none) ∧
      (mayDispatch (shared 4) ∧ ¬ dueIdentify (shared 4) ∧ candidate (shared 4) = some write5 ∧
        (shared 4).cfg.share.toNat + 1 ≤ (shared 4).engine.share) ∧
      (let r := { write5 with body := .fence }; candidate (queued r) = some r ∧ nextChannel (queued r) = none) ∧
      (let r := { write5 with body := .control 1 7, reserved := true }; candidate (queued r) = some r) ∧
      (let r := { write5 with body := .read 0 255 }; candidate (queued r) = some r) := by decide
theorem witness_ResponseDecides :
    (∀ x ∈ [Phase.select1, .select2, .response 1],
      (inCycle .write x).engine.bus = .cycle (work (.queue 5) .write (some (cyc x))) ∧ (work (.queue 5) .write (some (cyc x))).kind ≠ .identify) ∧
      (work (.queue 5) .read none).kind = .read ∧ (work (.queue 5) .control none).kind = .control ∧
      ((if (work (.queue 5) .control none).operand.getLsbD 0 then [PulseLine.sk1] else []) ++
        (if (work (.queue 5) .control none).operand.getLsbD 1 then [PulseLine.sk2] else []) ++
        (if (work (.queue 5) .control none).operand.getLsbD 2 then [PulseLine.sk4] else []) = .sk2 :: []) := by decide
theorem witness_ResponseDecides_outside :
    ∀ (w : BusWork) (c : Cycle), (inCycle .write .dataHigh).engine.bus = .cycle w → w.cycle = some c →
      w.kind = .identify ∨ (c.phase ≠ .select1 ∧ c.phase ≠ .select2 ∧ ∀ k, c.phase ≠ .response k) := by
  intro w c hw hc
  obtain rfl : _ = w := Bus.cycle.inj hw
  obtain rfl := Option.some.inj hc
  exact Or.inr ⟨by decide, by decide, fun k h => Phase.noConfusion h⟩
theorem witness_BytesTransfer :
    (inCycle .write .dataHigh).engine.bus = .cycle (work (.queue 5) .write (some (cyc .dataHigh))) ∧
      (∀ k ∈ [CycleKind.write, .read], (inCycle k (.dataLow 1 true)).engine.bus = .cycle (work (.queue 5) k (some (cyc (.dataLow 1 true))))) ∧
      (inCycle .read .turnaround).engine.bus = .cycle (work (.queue 5) .read (some (cyc .turnaround))) ∧
      (inCycle .read .dataHigh).engine.bus = .cycle (work (.queue 5) .read (some (cyc .dataHigh))) ∧
      inData (work (.queue 5) .read (some (cyc .select1))) (cyc .select1) = false := by decide
theorem witness_HoldSenseAndAnswerDecide :
    (inCycle .write .dataHigh).engine.bus = .cycle (work (.queue 5) .write (some (cyc .dataHigh))) ∧
      (inCycle .read .turnaround).engine.bus = .cycle (work (.queue 5) .read (some (cyc .turnaround))) ∧
      (inCycle .control (.pulse [.sk1] 1)).engine.bus = .cycle (work (.queue 5) .control (some (cyc (.pulse [.sk1] 1)))) ∧
      (inCycle .control (.sense 2)).engine.bus = .cycle (work (.queue 5) .control (some (cyc (.sense 2)))) ∧
      (∀ x ∈ [Phase.select1, .turnaround, .answer 4], (identify 0 x).engine.bus = .cycle
        { owner := .attention, kind := .identify, station := none, operand := 0, data := 0
          cycle := some { captured := none, phase := x, hold := 0 } }) ∧
      on.engine.bus = .idle := by decide
theorem witness_HoldSenseAndAnswerDecide_outside :
    ∀ x ∈ [Phase.ending (.answer 0), .ending .identifyParity, .ending .cut],
      ∀ (w : BusWork) (c : Cycle), (identify 0 x).engine.bus = .cycle w → w.cycle = some c →
        w.kind ≠ .identify ∨ (c.phase ≠ .select1 ∧ c.phase ≠ .turnaround ∧ ∀ k, c.phase ≠ .answer k) := by
  intro x hx w c hw hc
  obtain rfl : _ = w := Bus.cycle.inj hw
  obtain rfl := Option.some.inj hc
  refine Or.inr ?_
  simp only [List.mem_cons, List.not_mem_nil, or_false] at hx
  rcases hx with rfl | rfl | rfl <;> exact ⟨by decide, by decide, fun k h => Phase.noConfusion h⟩
theorem witness_RequestCycleRetires :
    ∀ o ∈ [CycleOutcome.ack none, .noResponse, .protocol, .parity 7],
      (inCycle .read (.ending o)).engine.bus = .cycle (work (.queue 5) .read (some (cyc (.ending o)))) ∧ o ≠ .busHang ∧
        (inCycle .read (.ending o)).rq.records.find? (fun x => x.tag = 5) = some active5 ∧ o.retires.isSome = true := by decide
theorem witness_RequestDefersOrHangs :
    ∀ o ∈ [CycleOutcome.defer, .busHang],
      (inCycle .read (.ending o)).engine.bus = .cycle (work (.queue 5) .read (some (cyc (.ending o)))) ∧
        (inCycle .read (.ending o)).rq.records.find? (fun x => x.tag = 5) = some active5 ∧ active5.body.station = some 0 ∧
        active5.defers + 1 < ((inCycle .read (.ending o)).profiles[(0 : Station)]).deferLimit.toNat ∧
        ((inCycle .read (.ending o)).profiles[(0 : Station)]).deferLimit.toNat ≤ ({ active5 with defers := 3 } : Request).defers + 1 := by
  decide
/-- Channel 2's word in its cycle. -/
def wordCycle (out : Bool) (x : Phase) : State :=
  onWord [] (chan (ctl out false false) (.moving .inCycle) (some 0xFFFF) (some 1)) (some (cyc x))
theorem witness_ChannelCycleEnds :
    (∀ o ∈ [CycleOutcome.ack (some 7), .ack none, .defer, .noResponse, .busHang],
      ∀ out ∈ [true, false],
        (wordCycle out (.ending o)).engine.bus = .cycle (work (.channel 2) .write (some (cyc (.ending o)))) ∧
          ((wordCycle out (.ending o)).channels[(2 : Channel)]).state = .moving .inCycle ∧
          ((wordCycle out (.ending o)).channels[(2 : Channel)]).control = some (ctl out false false) ∧
          ((wordCycle out (.ending o)).channels[(2 : Channel)]).keptCount = some 0xFFFF) ∧
      CycleOutcome.reason .noResponse = some .noResponse := by decide
theorem witness_ChannelCycleEnds_outside :
    ∀ (w : BusWork) (c : Cycle), (inCycle .write .dataHigh).engine.bus = .cycle w → w.cycle = some c → ∀ o, c.phase ≠ .ending o := by
  intro w c hw hc o h
  obtain rfl : _ = w := Bus.cycle.inj hw
  obtain rfl := Option.some.inj hc
  exact Phase.noConfusion h
theorem witness_BusResetOnIdleBus :
    on.inInit = false ∧ on.engine.bus = .idle ∧ (interval 64).inInit = false ∧ (interval 64).engine.bus = .resetting 64 false := by decide
theorem witness_BusResetEndsCycles :
    (∀ x ∈ [Phase.select1, .sense 2, .ending (.ack none), .ending .busHang, .ending .defer],
      (inCycle .write x).inInit = false ∧ (inCycle .write x).engine.bus = .cycle (work (.queue 5) .write (some (cyc x))) ∧
        (inCycle .write x).rq.records.find? (fun r => r.tag = 5) = some active5) ∧
      Phase.isEnding .select1 = false ∧ CycleOutcome.retires (.ack none) = some (.ok, 0) ∧ active5.body.station = some 0 ∧
      active5.defers + 1 < ((inCycle .write (.ending .defer)).profiles[(0 : Station)]).deferLimit.toNat ∧
      ((inCycle .write (.ending .defer)).profiles[(0 : Station)]).deferLimit.toNat ≤ ({ active5 with defers := 3 } : Request).defers + 1 ∧
      (identify 3 (.ending (.answer 0))).inInit = false ∧ (identify 3 (.ending .identifyParity)).busy = true ∧
      Phase.isEnding (.answer 4) = false := by decide
theorem witness_BusResetCutsChannelWord :
    (∀ x ∈ [Phase.select1, .ending (.ack none), .ending .defer, .ending .noResponse],
      (wordCycle true x).inInit = false ∧ (wordCycle true x).engine.bus = .cycle (work (.channel 2) .write (some (cyc x))) ∧
        ((wordCycle true x).channels[(2 : Channel)]).state = .moving .inCycle ∧
        ((wordCycle true x).channels[(2 : Channel)]).keptCount = some 0xFFFF) ∧
      (let s := onWord [] (chan (ctl true false false) (.moving .countRead) none none) none;
        s.inInit = false ∧ (s.channels[(2 : Channel)]).state = .moving .countRead ∧ (s.channels[(2 : Channel)]).keptCount = none) ∧
      (∀ y ∈ [WordStep.zeroAddrRead, .addrWrite, .outRead],
        let s := onWord [] (chan (ctl true false false) (.moving y) (some 0) (some 1)) none
        s.inInit = false ∧ (s.channels[(2 : Channel)]).state = .moving y ∧ (s.channels[(2 : Channel)]).keptCount = some 0 ∧
          s.engine.bus = .cycle (work (.channel 2) .write none)) ∧
      (∀ y ∈ [WordStep.inWrite 7, .rollCount (.fault .range), .rollAddr (.defer 2), .rollCount (.fault .busHang),
          .rollAddr (.fault .busHang)],
        let s := onWord [] (chan (ctl true false false) (.moving y) (some 1) (some 1)) none
        s.inInit = false ∧ (s.channels[(2 : Channel)]).state = .moving y ∧ s.engine.bus = .cycle (work (.channel 2) .write none)) ∧
      WordEnd.fault .range ≠ .fault .busHang := by decide
theorem witness_IntervalAndDividerEvents :
    (∀ k ∈ [1, 32, 33, 64], (interval k).engine.bus = .resetting k false ∧ (interval k).part ≠ .resetAsserted) ∧
      held.part = .resetAsserted ∧ (∀ k f, on.engine.bus ≠ .resetting k f) ∧ (∀ w, on.engine.bus = .cycle w → w.cycle = none) ∧
      (inCycle .write .select1).engine.bus = .cycle (work (.queue 5) .write (some (cyc .select1))) ∧
      (onWord [] (chan (ctl true false false) (.moving .countRead) none none) none).engine.bus = .cycle (work (.channel 2) .write none) := by
  exact ⟨by decide, by decide, fun _ _ h => Bus.noConfusion h, fun _ h => Bus.noConfusion h, by decide, by decide⟩
theorem witness_SoftResetState : on.inInit = false ∧ (wordCycle true .select1).inInit = false := by decide
theorem witness_PinResetToResetState :
    held.part = .resetAsserted ∧ on.part ≠ .resetAsserted ∧ sweeping.part ≠ .resetAsserted ∧ 4 ≤ 4 ∧ 3 < 4 ∧
      (sweeping.part = .init 9 ∧ sweeping.engine.bus = .resetting 1 false) ∧
      (let s := sweeping.setBus .idle; s.part = .init 9 ∧ ∀ k f, s.engine.bus ≠ .resetting k f) ∧ (∀ k, on.part ≠ .init k) := by
  exact ⟨by decide, by decide, by decide, by decide, by decide, by decide, ⟨rfl, fun _ _ h => Bus.noConfusion h⟩,
    fun _ h => PartPhase.noConfusion h⟩
theorem witness_CcbLoadChecks :
    (∀ l ∈ [LoadStep.control, .count 0x1A02, .link 0x1A02 1],
      let s := withChannel ccb { ChannelRec.reset with state := .loading l, ccb := 0x10 }
      (s.channels[(2 : Channel)]).state = .loading l ∧ turnOf s 2 ∧ aloneAtMemory s 2 ∧
        (let t := s.setChannel 3 { ChannelRec.reset with state := .loading .control }; turnOf t 2 ∧ ¬ aloneAtMemory t 2)) ∧
      (0x0A02#16).extractLsb' 12 4 = 0#4 ∧ ((0x1A02#16).extractLsb' 12 4).toNat = Station.number 0 ∧
      ((0xFA02#16).extractLsb' 12 4).toNat = Station.number 14 ∧ (on.profiles[(0 : Station)]).enabled = true ∧
      (on.profiles[(14 : Station)]).enabled = false ∧ (0x1A02#16).getLsbD 10 = false ∧ (0x1E02#16).getLsbD 10 = true ∧
      (on.alerts.config[(Station.source 0)]).routing ≠ .channel 2 ∧ (0xFFFF#16) ≠ 0 ∧
      (∀ l, (on.channels[(2 : Channel)]).state ≠ .loading l) := by
  exact ⟨by decide, by decide, by decide, by decide, by decide, by decide, by decide, by decide, by decide, by decide,
    fun _ h => ChState.noConfusion h⟩
/-- Channel 2 in a word step with kept values. -/
def inStep (m : Memory) (hold : Bool) (x : WordStep) (count addr : Option Word) : State :=
  onWord m (chan (ctl true false hold) (.moving x) count addr) none
theorem witness_CountAndAddressSteps :
    (let s := inStep ccb true .countRead none none;
      (s.channels[(2 : Channel)]).control = some (ctl true false true) ∧ Memory.read s.xmem.mem (0x10 + 1) ≠ 0 ∧ turnOf s 2 ∧
        aloneAtMemory s 2) ∧
      (∀ x ∈ [WordStep.countWrite, .zeroAddrRead, .addrRead, .addrWrite],
        let s := inStep ccb false x (some 0) (some 1)
        turnOf s 2 ∧ aloneAtMemory s 2) ∧
      Memory.read (inStep [] true .countRead none none).xmem.mem (0x10 + 1) = 0 ∧
      ((inStep ccb true .countWrite (some 0xFFFF) none).channels[(2 : Channel)]).keptCount = some 0xFFFF ∧
      ((inStep ccb true .zeroAddrRead (some 0) none).channels[(2 : Channel)]).keptCount = some 0 ∧
      (inStep ccb true .outRead (some 1) (some 1)).engine.bus = .cycle (work (.channel 2) .write none) ∧
      (let a := Memory.read (inStep [(0x12, 0x0FFF#16)] true .addrRead (some 1) none).xmem.mem (0x10 + 2);
        a.toNat ≤ 0xFFF ∧ 0xFFF < a.toNat + 1 ∧ (ctl true false true).hold = true ∧ (ctl true false false).hold = false) ∧
      (Memory.read (inStep [(0x12, 0x0FFE#16)] false .addrRead (some 1) none).xmem.mem (0x10 + 2)).toNat < 0xFFF ∧
      ((inStep ccb false .addrWrite (some 1) (some 0x0FFE)).channels[(2 : Channel)]).keptAddress = some 0x0FFE := by decide
theorem witness_DataStepAndInWrite :
    (let s := inStep ccb false .outRead (some 1) (some 0x0FFE);
      (s.channels[(2 : Channel)]).control = some (ctl true false false) ∧ s.engine.bus = .cycle (work (.channel 2) .write none) ∧
        (s.channels[(2 : Channel)]).keptAddress = some 0x0FFE ∧ (s.channels[(2 : Channel)]).state = .moving .outRead ∧ turnOf s 2) ∧
      ((inStep ccb false (.ask none) (some 1) (some 1)).channels[(2 : Channel)]).state = .moving (.ask none) ∧
      ((inStep ccb false .inCycle (some 1) (some 1)).channels[(2 : Channel)]).state ≠ .moving .outRead ∧
      (let s := inStep ccb false (.inWrite 7) (some 0xFFFF) (some 0x0FFE);
        (s.channels[(2 : Channel)]).state = .moving (.inWrite 7) ∧ turnOf s 2 ∧ (s.channels[(2 : Channel)]).keptAddress = some 0x0FFE) ∧
      (let s := withChannel ccb (chan (ctl false false false) (.moving (.inWrite 7)) (some 1) (some 1));
        s.engine.bus = .idle ∧ turnOf s 2) ∧
      (on.channels[(2 : Channel)]).state = .idle := by decide
theorem witness_RollbackRestoresCcb :
    (∀ e ∈ [WordEnd.fault .range, .fault .busHang, .defer 0],
      let s := inStep ccb false (.rollCount e) (some 1) none
      (s.channels[(2 : Channel)]).control = some (ctl true false false) ∧ (s.channels[(2 : Channel)]).keptCount = some 1 ∧
        s.engine.bus = .cycle (work (.channel 2) .write none) ∧ (s.channels[(2 : Channel)]).state = .moving (.rollCount e) ∧
        turnOf s 2 ∧ aloneAtMemory s 2 ∧ (s.channels[(2 : Channel)]).keptAddress = none ∧
        (let u := inStep ccb false (.rollCount e) (some 1) (some 1);
          turnOf u 2 ∧ (u.channels[(2 : Channel)]).keptAddress.isSome = true) ∧
        (let t := inStep ccb false (.rollAddr e) (some 1) (some 1);
          (t.channels[(2 : Channel)]).state = .moving (.rollAddr e) ∧ (t.channels[(2 : Channel)]).keptAddress.isSome = true ∧ turnOf t 2)) ∧
      ((on.profiles[(0 : Station)]).deferLimit.toNat ≤ 3 + 1 ∧ 2 + 1 < (on.profiles[(0 : Station)]).deferLimit.toNat) ∧
      (let s := withChannel ccb (chan (ctl true false false) (.moving (.rollCount (.defer 0))) (some 1) none);
        s.engine.bus = .idle ∧ (s.channels[(2 : Channel)]).keptCount = some 1 ∧ turnOf s 2 ∧ aloneAtMemory s 2) ∧
      (on.channels[(2 : Channel)]).state = .idle := by decide
theorem witness_laws_of_a_busy_state :
    MemoryCanonical (wordCycle true .dataHigh) ∧ ProfilesLegal (wordCycle true .dataHigh) ∧ cyclesFit (wordCycle true .dataHigh) = true ∧
      engineLegal (wordCycle true .dataHigh) = true ∧ InServiceLaw (wordCycle true .dataHigh) ∧
      FlagsFollowRouting (wordCycle true .dataHigh) ∧ TimersLegal (wordCycle true .dataHigh) ∧
      ChannelsLegal (wordCycle true .dataHigh) ∧ step (wordCycle true .dataHigh) = .next (tick (wordCycle true .dataHigh)) := by
  exact ⟨by decide, by decide, by decide, by decide, by decide, by decide, by decide, by decide, rfl⟩
theorem witness_queue_laws_of_a_busy_state :
    RequestStates (inCycle .write .dataHigh) ∧ cyclesFit (inCycle .write .dataHigh) = true ∧
      engineLegal (inCycle .write .dataHigh) = true ∧ ownerActive (inCycle .write .dataHigh) = true ∧
      (heldTags (inCycle .write .dataHigh)).Nodup ∧ (inCycle .write .dataHigh).cq.reserved = 1 ∧
      (∀ t : Fin 64, (inCycle .write .dataHigh).cq.tags[t] = true ↔ BitVec.ofFin (w := 6) t ∈ heldTags (inCycle .write .dataHigh)) := by
  decide

end Sys2Proof.Tests
end

section
/-! PROOFS. The bus state under the shared operations: which keep it, which end bus work, which start an interval. -/

namespace Sys2Proof.Machine

/-! ### Bus work kept or ended (R84, R93) -/

/-- From the first state to the second the bus state is kept, or the bus work in flight has ended and the bus is idle. -/
def BusKeptOrEnded (s t : State) : Prop :=
  t.engine.bus = s.engine.bus ∨ (∃ w, s.engine.bus = .cycle w) ∧ t.engine.bus = .idle

/-- The relation reads nothing but the two bus states. -/
theorem BusKeptOrEnded.congr {s s' t t' : State} (h : BusKeptOrEnded s t) (hs : s'.engine.bus = s.engine.bus)
    (ht : t'.engine.bus = t.engine.bus) : BusKeptOrEnded s' t' := by
  unfold BusKeptOrEnded
  rw [hs, ht]
  exact h

/-- An interval is never ended by the end of bus work. -/
theorem BusKeptOrEnded.of_resetting {s t : State} (h : BusKeptOrEnded s t) {k : Nat} {f : Bool}
    (hs : s.engine.bus = .resetting k f) : t.engine.bus = .resetting k f := by
  obtain h | ⟨⟨w, hw⟩, -⟩ := h
  · rw [h, hs]
  · rw [hs] at hw
    cases hw

/-- A channel that owns the bus has bus work in flight. -/
theorem ownsBus_cycle {c : Channel} {s : State} (h : ownsBus c s = true) : ∃ w, s.engine.bus = .cycle w := by
  unfold ownsBus at h
  split at h
  · exact ⟨_, by assumption⟩
  · cases h
  · cases h

theorem releaseBus_busKeptOrEnded (c : Channel) (s : State) : BusKeptOrEnded s (releaseBus c s) := by
  unfold releaseBus
  split
  · next h => exact .inr ⟨ownsBus_cycle h, endBusWork_engine_bus s⟩
  · exact .inl rfl

/-- Leaving MOVING does to the bus what its release does. -/
theorem leaveMoving_engine_bus (c : Channel) (e : WordEnd) (s : State) :
    (leaveMoving c e s).engine.bus = (releaseBus c s).engine.bus := by
  cases e with
  | fault reason => exact enterFaulted_engine_bus c reason (releaseBus c s)
  | defer elapsed => exact handleChannelDefer_engine_bus c elapsed (!ownsBus c s) (releaseBus c s)

theorem leaveMoving_busKeptOrEnded (c : Channel) (e : WordEnd) (s : State) : BusKeptOrEnded s (leaveMoving c e s) :=
  (releaseBus_busKeptOrEnded c s).congr rfl (leaveMoving_engine_bus c e s)

theorem startRollback_busKeptOrEnded (c : Channel) (e : WordEnd) (s : State) : BusKeptOrEnded s (startRollback c e s) := by
  unfold startRollback
  dsimp only
  split
  · exact leaveMoving_busKeptOrEnded c e s
  · exact .inl rfl

theorem channelAck_busKeptOrEnded (c : Channel) (s : State) : BusKeptOrEnded s (channelAck c s) := by
  unfold channelAck
  dsimp only
  split
  · exact .inl rfl
  · next k _ =>
    split
    · exact (releaseBus_busKeptOrEnded c _).congr (by simp) (finishCcb_engine_bus _ _ _)
    · exact (releaseBus_busKeptOrEnded c _).congr (by simp) (resumeOrStop_engine_bus _ _ _)

theorem channelOutcome_busKeptOrEnded (c : Channel) (o : CycleOutcome) (s : State) : BusKeptOrEnded s (channelOutcome c o s) := by
  cases o with
  | ack data =>
    simp only [channelOutcome]
    split
    · exact .inl rfl
    · split
      · exact channelAck_busKeptOrEnded c s
      · exact .inl rfl
  | defer | noResponse | protocol | parity | busHang | cut => exact startRollback_busKeptOrEnded c _ s
  | answer | identifyParity => exact .inl rfl

theorem wordMeetsReset_busKeptOrEnded (c : Channel) (n : Option Station) (s : State) :
    BusKeptOrEnded s (wordMeetsReset c n s) := by
  unfold wordMeetsReset
  split
  case h_1 | h_2 | h_3 | h_4 | h_5 | h_6 | h_7 | h_8 => exact channelOutcome_busKeptOrEnded c .cut s
  case h_10 | h_11 => exact .inl (writeFault_engine_bus _ _ _)
  all_goals exact .inl rfl

theorem ownerMeetsReset_busKeptOrEnded (w : BusWork) (s : State) : BusKeptOrEnded s (ownerMeetsReset w s) := by
  unfold ownerMeetsReset
  split
  · exact .inl (by simp)
  · exact (channelOutcome_busKeptOrEnded _ _ s).congr rfl (writeCycleFault_engine_bus _ _ _)
  · exact wordMeetsReset_busKeptOrEnded _ _ s
  · exact .inl (by simp)
  · exact .inl rfl
  · exact .inl rfl

/-! ### The start of a bus reset (R18, R104) -/

/-- A bus reset puts the bus in the first period of an interval, whatever work it ends. -/
@[simp] theorem startBusReset_engine_bus (s : State) : (startBusReset s).engine.bus = resettingFrom s := by
  have hw (w : BusWork) :
      (ownerMeetsReset w (workEnded (s.setBus (resettingFrom s)))).engine.bus = resettingFrom s :=
    (ownerMeetsReset_busKeptOrEnded w _).of_resetting (by simp [resettingFrom])
  unfold startBusReset
  dsimp only
  split
  · simp [hw]
  · simp
  · simp

/-! ### The commands of CMD -/

@[simp] theorem clearRouted_engine_bus (x : Source) (s : State) : (clearRouted x s).engine.bus = s.engine.bus := by
  unfold clearRouted
  (repeat' split) <;> simp

@[simp] theorem applySense_engine_bus (x : Source) (s : State) : (applySense x s).engine.bus = s.engine.bus := by
  unfold applySense
  split <;> rfl

@[simp] theorem takePending_engine_bus (x : Source) (s : State) : (takePending x s).engine.bus = s.engine.bus := by
  unfold takePending
  (repeat' split) <;> simp

@[simp] theorem setInService_engine_bus (l : Line) (x : Source) (v : Bool) (s : State) :
    (setInService l x v s).engine.bus = s.engine.bus := rfl

/-- A command row is its command behind the INIT check (R194). -/
theorem exec_command {c : Instr} {w : Word} (h : encodeCommand c = some w) (s : State) :
    exec c s = .next (windowCommand (performCommand c) s) := by
  cases c
  case run | stop | step | flush | busReset | clearFault | softReset | post | pop | profApply | profLoad | srcApply | srcLoad |
      take | endService | arm | chStop | chAck => rfl
  all_goals cases h

/-- Of the commands only the two resets move the bus state; the others change the run state, the queues, the configuration
and the flags. -/
theorem performCommand_engine_bus {c : Instr} (hb : c ≠ .busReset) (hr : c ≠ .softReset) (s : State) :
    (performCommand c s).engine.bus = s.engine.bus := by
  cases c
  case busReset => exact absurd rfl hb
  case softReset => exact absurd rfl hr
  case stop | step =>
    simp only [performCommand, stopEngine, stepEngine]
    (repeat' split) <;> simp
  case post | pop =>
    simp only [performCommand, postRequest, popCompletion]
    (repeat' split) <;> simp
  case profApply | profLoad =>
    simp only [performCommand, applyProfile, loadProfile, disableStation]
    (repeat' split) <;> simp
  case srcApply | srcLoad | take | endService =>
    simp only [performCommand, applySource, loadSource, takeSource, endSource]
    (repeat' split) <;> simp
  case arm | chStop | chAck =>
    simp only [performCommand, armChannel, stopChannel, ackChannel]
    (repeat' split) <;> simp
  all_goals rfl

/-- A write of a plain location leaves the bus state as it is. -/
@[simp] theorem storeLocation_engine_bus (location : BitVec 5) (w : Word) (s : State) :
    (storeLocation location w s).engine.bus = s.engine.bus := by
  unfold storeLocation
  split <;> rfl

end Sys2Proof.Machine
end

section
/-! PROOFS. The law of the station bus cycle (Tables 3 and 6 of spec/01): bus work, cycle phase and outcome of their kind. -/

namespace Sys2Proof.Machine

/-! ### What the law says of each bus state -/

theorem cyclesFit_congr {s t : State} (h : t.engine.bus = s.engine.bus) : cyclesFit t = cyclesFit s := by
  unfold cyclesFit
  rw [h]

theorem cyclesFit_of_idle {s : State} (h : s.engine.bus = .idle) : cyclesFit s = true := by
  simp [cyclesFit, h]

theorem cyclesFit_of_resetting {s : State} {k : Nat} {f : Bool} (h : s.engine.bus = .resetting k f) : cyclesFit s = true := by
  simp [cyclesFit, h]

theorem cyclesFit_cycle_iff {s : State} {w : BusWork} (h : s.engine.bus = .cycle w) :
    cyclesFit s = true ↔ w.fits = true ∧ ∀ c, w.cycle = some c → c.fits w.kind = true := by
  unfold cyclesFit
  rw [h]
  cases hc : w.cycle <;> simp [hc]

theorem cyclesFit_of_keptOrEnded {s t : State} (h : BusKeptOrEnded s t) (hs : cyclesFit s = true) : cyclesFit t = true := by
  obtain h | ⟨-, h⟩ := h
  · rw [cyclesFit_congr h, hs]
  · exact cyclesFit_of_idle h

theorem cyclesFit_startBusReset (s : State) : cyclesFit (startBusReset s) = true :=
  cyclesFit_of_resetting (startBusReset_engine_bus s)

/-! ### A cycle under the events that decide its way -/

theorem Cycle.fits_iff {k : CycleKind} {c : Cycle} :
    c.fits k = true ↔ phaseFits k c.phase = true ∧ c.captured.isSome = k.hasResponse := by
  simp [Cycle.fits]

/-- The captured values do not change during a cycle, so a cycle fits in every phase of its kind. -/
theorem Cycle.fits_of_phase {k : CycleKind} {c d : Cycle} (hc : c.fits k = true) (hd : d.captured = c.captured)
    (hx : phaseFits k d.phase = true) : d.fits k = true := by
  rw [Cycle.fits_iff] at hc ⊢
  exact ⟨hx, hd ▸ hc.2⟩

/-- The phase an ACK leads to is one of the kind's (Table 5 of spec/01). -/
theorem phaseFits_afterAck {w : BusWork} (h : w.kind.hasResponse = true) : phaseFits w.kind (afterAck w) = true := by
  unfold afterAck
  cases hk : w.kind with
  | write | read => rfl
  | control =>
    dsimp only
    unfold pulseFrom
    split <;> rfl
  | identify =>
    rw [hk] at h
    cases h

/-- The response window belongs to the kinds with a response. -/
theorem hasResponse_of_beforeResponse {w : BusWork} {c : Cycle} (h : beforeResponse w c = true) : w.kind.hasResponse = true := by
  unfold beforeResponse at h
  exact (Bool.and_eq_true_iff.mp h).1

@[simp] theorem outcomeFits_defer (k : CycleKind) : outcomeFits k .defer = k.hasResponse := by cases k <;> rfl
@[simp] theorem outcomeFits_noResponse (k : CycleKind) : outcomeFits k .noResponse = k.hasResponse := by cases k <;> rfl
@[simp] theorem outcomeFits_protocol (k : CycleKind) : outcomeFits k .protocol = k.hasResponse := by cases k <;> rfl

theorem respond_fits (code : BitVec 2) {w : BusWork} {c : Cycle} (hc : c.fits w.kind = true) :
    (respond code w c).fits w.kind = true := by
  unfold respond
  split
  · next hb =>
    have hr := hasResponse_of_beforeResponse hb
    split
    · exact Cycle.fits_of_phase hc rfl (phaseFits_afterAck hr)
    · exact Cycle.fits_of_phase hc rfl (by simpa [Cycle.decide, phaseFits] using hr)
    · exact Cycle.fits_of_phase hc rfl (by simpa [Cycle.decide, phaseFits] using hr)
    · exact hc
  · exact hc

theorem silence_fits {w : BusWork} {c : Cycle} (hc : c.fits w.kind = true) : (silence w c).fits w.kind = true := by
  unfold silence
  split
  · next hb =>
    have hr := hasResponse_of_beforeResponse hb
    exact Cycle.fits_of_phase hc rfl (by simpa [Cycle.decide, phaseFits] using hr)
  · exact hc

/-- The bytes of a READ decide an ACK with data or PARITY, both outcomes of a READ. -/
theorem outcomeFits_readOutcome (high low : Byte) (bad : Bool) : outcomeFits .read (readOutcome high low bad) = true := by
  unfold readOutcome
  split <;> rfl

theorem transferByte_fits (sad : Byte) (spar : Bool) {w : BusWork} {c : Cycle} (hc : c.fits w.kind = true) :
    (transferByte sad spar w c).fits w.kind = true := by
  unfold transferByte
  split
  case h_1 hk _ | h_2 hk _ | h_3 hk _ | h_4 hk _ => exact Cycle.fits_of_phase hc rfl (by rw [hk]; rfl)
  case h_5 hk _ => exact Cycle.fits_of_phase hc rfl (by rw [hk]; exact outcomeFits_readOutcome _ _ _)
  case h_6 => exact hc

theorem hang_fits {w : BusWork} {c : Cycle} (hc : c.fits w.kind = true) : (hang w c).fits w.kind = true := by
  unfold hang
  split
  · next hd =>
    refine Cycle.fits_of_phase hc rfl ?_
    unfold inData at hd
    split at hd
    case h_6 => cases hd
    all_goals
      next hk _ =>
      rw [hk]
      rfl
  · exact hc

/-- The pulses and the sense periods belong to a CONTROL, and its ACK brings one sense level. -/
theorem sampleSense_fits (level : Bool) {w : BusWork} {c : Cycle} (hc : c.fits w.kind = true) :
    (sampleSense level w c).fits w.kind = true := by
  have ack (hk : w.kind = .control) : (c.decide (.ack (some (if level then 1 else 0)))).fits w.kind = true :=
    Cycle.fits_of_phase hc rfl (by rw [hk]; cases level <;> rfl)
  have hp := (Cycle.fits_iff.mp hc).1
  unfold sampleSense
  split
  · next h => exact ack (by simpa [h, phaseFits] using hp)
  · next h => exact ack (by simpa [h, phaseFits] using hp)
  · exact hc

theorem checkAnswer_fits (high : Byte) (p : Bool) (low : Byte) (q : Bool) {w : BusWork} {c : Cycle} (hc : c.fits w.kind = true) :
    (checkAnswer high p low q w c).fits w.kind = true := by
  unfold checkAnswer
  dsimp only
  split
  case h_4 => exact hc
  all_goals
    next hk _ =>
    refine Cycle.fits_of_phase hc rfl ?_
    rw [hk]
    simp only [Cycle.decide]
    split <;> rfl

/-- The period after a period of a cycle is one of its kind, whatever values it captured (Table 3 of spec/01). -/
theorem phaseFits_nextPhase {k : CycleKind} (p : Captured) {x : Phase} (h : phaseFits k x = true) :
    phaseFits k (nextPhase k p x) = true := by
  cases x with
  | select1 | select2 | turnaround => cases k <;> simp_all [nextPhase, phaseFits, CycleKind.hasResponse, CycleKind.stationsDrive]
  | response | sense | answer =>
    simp only [nextPhase]
    split <;> exact h
  | pulse lines i =>
    simp only [nextPhase, pulseFrom]
    (repeat' split) <;> exact h
  | dataHigh | dataLow | ending => exact h

theorem cyclePeriod_fits {w : BusWork} {c : Cycle} (hc : c.fits w.kind = true) : (cyclePeriod w c).fits w.kind = true :=
  Cycle.fits_of_phase hc rfl (phaseFits_nextPhase _ (Cycle.fits_iff.mp hc).1)

/-! ### Bus work under the steps of its cycle -/

/-- Bus work is of its owner's kind whatever its cycle stands in. -/
theorem BusWork.fits_with_cycle {w : BusWork} (h : w.fits = true) {x : Option Cycle} (hx : x.isSome = w.cycle.isSome) :
    ({ w with cycle := x } : BusWork).fits = true := by
  unfold BusWork.fits at h ⊢
  dsimp only
  rw [hx]
  exact h

/-- An event that takes every fitting cycle to a fitting one keeps the law. -/
theorem cyclesFit_onCycle {f : BusWork → Cycle → Cycle} (hf : ∀ w c, c.fits w.kind = true → (f w c).fits w.kind = true)
    {s : State} (hs : cyclesFit s = true) : cyclesFit (onCycle f s) = true := by
  unfold onCycle
  split
  · next w hb =>
    split
    · next c hc =>
      obtain ⟨hw, hcyc⟩ := (cyclesFit_cycle_iff hb).mp hs
      refine (cyclesFit_cycle_iff (w := { w with cycle := some (f w c) }) rfl).mpr ⟨?_, ?_⟩
      · exact BusWork.fits_with_cycle hw (by rw [hc]; rfl)
      · rintro d ⟨⟩
        exact hf w c (hcyc c hc)
    · exact hs
  · exact hs
  · exact hs

theorem tick_engine_bus (s : State) : (tick s).engine.bus = busPeriod s.part s.engine.bus := rfl

/-- One period keeps the law: a cycle goes on within its kind, an interval stays an interval. -/
theorem cyclesFit_tick {s : State} (hs : cyclesFit s = true) : cyclesFit (tick s) = true := by
  have ht := tick_engine_bus s
  cases hb : s.engine.bus with
  | idle => exact cyclesFit_of_idle (by rw [ht, hb]; rfl)
  | resetting k f =>
    rw [hb] at ht
    simp only [busPeriod] at ht
    (repeat' split at ht) <;> exact cyclesFit_of_resetting ht
  | cycle w =>
    obtain ⟨hw, hcyc⟩ := (cyclesFit_cycle_iff hb).mp hs
    rw [hb] at ht
    refine (cyclesFit_cycle_iff ht).mpr ⟨BusWork.fits_with_cycle hw (by simp), fun d hd => ?_⟩
    obtain ⟨c, hc, rfl⟩ := Option.map_eq_some_iff.mp hd
    exact cyclePeriod_fits (hcyc c hc)

/-! ### Grants and the begin of a word's cycle (R90) -/

theorem grantIdentify_fits (s : State) : cyclesFit (grantIdentify s) = true := rfl

theorem grantWord_fits (c : Channel) {s : State} (hs : cyclesFit s = true) : cyclesFit (grantWord c s) = true := by
  unfold grantWord
  dsimp only
  split
  · exact hs
  · next k _ =>
    refine (cyclesFit_cycle_iff rfl).mpr ⟨?_, fun _ h => by cases h⟩
    cases hk : k.out <;> simp [BusWork.fits]

/-- The bus work of a request is a cycle to its station in its first period, with the station's values captured. -/
theorem requestWork_fits {s : State} {r : Request} {w : BusWork} (h : requestWork s r = some w) :
    w.fits = true ∧ ∀ c, w.cycle = some c → c.fits w.kind = true := by
  unfold requestWork at h
  dsimp only at h
  split at h
  case h_4 => cases h
  all_goals
    cases h
    exact ⟨rfl, by rintro c ⟨⟩; rfl⟩

theorem activate_engine_bus (r : Request) (s : State) : (activate r s).engine.bus = s.engine.bus := by
  unfold activate
  dsimp only
  split <;> rfl

theorem grantRequest_fits (r : Request) {s : State} (hs : cyclesFit s = true) : cyclesFit (grantRequest r s) = true := by
  unfold grantRequest
  dsimp only
  split
  · exact (cyclesFit_congr (by rw [retire_engine_bus, activate_engine_bus])).trans hs
  · split
    · next w hw => exact (cyclesFit_cycle_iff rfl).mpr (requestWork_fits hw)
    · exact (cyclesFit_congr (by rw [activate_engine_bus])).trans hs

theorem grantShared_fits {s : State} (hs : cyclesFit s = true) : cyclesFit (grantShared s) = true := by
  unfold grantShared
  split
  · exact grantRequest_fits _ hs
  · exact grantWord_fits _ hs
  · split
    · exact grantWord_fits _ ((cyclesFit_congr rfl).trans hs)
    · exact grantRequest_fits _ hs
  · exact hs

/-- A channel word is a WRITE or a READ, which captures the profile values its cycle begins with (R4, R90). -/
theorem beginWordCycle_fits (c : Channel) {s : State} (hs : cyclesFit s = true) : cyclesFit (beginWordCycle c s) = true := by
  unfold beginWordCycle
  split
  · next w _ k hb _ _ =>
    split
    · next ho =>
      obtain ⟨hw, -⟩ := (cyclesFit_cycle_iff hb).mp hs
      simp only [BusWork.fits, ho, Bool.and_eq_true, Bool.or_eq_true, beq_iff_eq] at hw
      obtain ⟨hk, hst⟩ := hw
      refine (cyclesFit_cycle_iff rfl).mpr ⟨by simp [BusWork.fits, ho, hk, hst], ?_⟩
      rintro d ⟨⟩
      obtain hk | hk := hk <;> (dsimp only; rw [hk]; rfl)
    · exact hs
  · exact hs

/-! ### Memory accesses of the channels -/

theorem startRollback_fits (c : Channel) (e : WordEnd) {s : State} (hs : cyclesFit s = true) :
    cyclesFit (startRollback c e s) = true :=
  cyclesFit_of_keptOrEnded (startRollback_busKeptOrEnded c e s) hs

theorem rangeCheck_fits (c : Channel) (k : Control) {s : State} (hs : cyclesFit s = true) : cyclesFit (rangeCheck c k s) = true := by
  unfold rangeCheck
  dsimp only
  split
  · exact startRollback_fits c _ hs
  · split
    · exact startRollback_fits c _ hs
    · exact hs

theorem finishRollback_fits (c : Channel) (e : WordEnd) {s : State} (hs : cyclesFit s = true) :
    cyclesFit (finishRollback c e s) = true := by
  unfold finishRollback
  dsimp only
  split
  · exact cyclesFit_startBusReset _
  · exact cyclesFit_of_keptOrEnded (leaveMoving_busKeptOrEnded c e s) hs

theorem wordAccess_fits (c : Channel) (k : Control) (x : WordStep) {s : State} (hs : cyclesFit s = true) :
    cyclesFit (wordAccess c k x s) = true := by
  cases x with
  | countRead | countWrite | outRead | ask | inCycle => exact hs
  | zeroAddrRead => exact startRollback_fits c _ hs
  | addrRead =>
    simp only [wordAccess]
    split
    · exact startRollback_fits c _ hs
    · split
      · exact rangeCheck_fits c k hs
      · exact hs
  | addrWrite => exact rangeCheck_fits c k hs
  | inWrite data => exact cyclesFit_of_keptOrEnded (channelAck_busKeptOrEnded c _) hs
  | rollCount e =>
    simp only [wordAccess]
    split
    · exact finishRollback_fits c e hs
    · exact hs
  | rollAddr e => exact finishRollback_fits c e hs

theorem channelAccess_fits (c : Channel) {s : State} (hs : cyclesFit s = true) : cyclesFit (channelAccess c s) = true := by
  unfold channelAccess
  dsimp only
  split
  · split
    · exact (cyclesFit_congr (by simp)).trans hs
    · split
      · exact wordAccess_fits c _ _ hs
      · exact hs
    all_goals exact hs
  · exact hs

theorem serveSlots_fits (inStep : ChState → Bool) (x : Service) {s : State} (hs : cyclesFit s = true) :
    cyclesFit (serveSlots inStep x.channel x.slots s) = true :=
  serveSlots_keeps (P := fun t => cyclesFit t = true) inStep x.channel x.slots (fun c _ => channelAccess_fits c) hs

/-! ### Window accesses, the end of a cycle and the resets -/

theorem windowTurn_fits (running : Bool) {s : State} (hs : cyclesFit s = true) : cyclesFit (windowTurn running s) = true := by
  unfold windowTurn
  split
  · exact channelAccess_fits _ hs
  · exact hs

theorem readMdata_fits (running : Bool) {s : State} (hs : cyclesFit s = true) : cyclesFit (readMdata running s) = true := by
  unfold readMdata
  split
  · exact hs
  · exact windowTurn_fits running hs

theorem writeMdata_fits (data : Word) (running : Bool) {s : State} (hs : cyclesFit s = true) :
    cyclesFit (writeMdata data running s) = true := by
  unfold writeMdata
  split
  · exact hs
  · exact windowTurn_fits running hs

theorem unlessInit_fits {write : State → State} {s : State} (hw : (write s).engine.bus = s.engine.bus) (hs : cyclesFit s = true) :
    cyclesFit (unlessInit write s) = true := by
  unfold unlessInit
  split
  · exact hs
  · exact (cyclesFit_congr hw).trans hs

theorem windowCommand_fits {body : State → State} {s : State} (hb : cyclesFit (body s) = true) (hs : cyclesFit s = true) :
    cyclesFit (windowCommand body s) = true := by
  unfold windowCommand
  split
  · exact hs
  · exact hb

theorem performCommand_fits (c : Instr) {s : State} (hs : cyclesFit s = true) : cyclesFit (performCommand c s) = true := by
  by_cases hb : c = .busReset
  · subst hb
    simp only [performCommand, busResetCommand]
    split
    · exact hs
    · exact cyclesFit_startBusReset s
  by_cases hr : c = .softReset
  · subst hr
    exact cyclesFit_of_resetting rfl
  exact (cyclesFit_congr (performCommand_engine_bus hb hr s)).trans hs

theorem writeCmd_fits (w : Word) {s : State} (hs : cyclesFit s = true) : cyclesFit (writeCmd w s) = true := by
  unfold writeCmd
  split
  · exact performCommand_fits _ hs
  · exact hs

theorem writeLocation_fits (location : BitVec 5) (w : Word) {s : State} (hs : cyclesFit s = true) :
    cyclesFit (writeLocation location w s) = true := by
  unfold writeLocation
  split
  · exact windowCommand_fits (writeCmd_fits w hs) hs
  · exact writeMdata_fits w false hs
  · exact unlessInit_fits rfl hs
  · exact unlessInit_fits rfl hs
  · exact unlessInit_fits (storeLocation_engine_bus location w s) hs

/-- The work of a request or an IDENTIFY is gone from the bus as its outcome is delivered; a channel word holds it with no
cycle (R85, R92). -/
theorem deliver_fits {w : BusWork} (o : CycleOutcome) (s : State) (hw : w.fits = true) : cyclesFit (deliver w o s) = true := by
  unfold deliver
  split
  · unfold resetAfterHang
    split
    · exact cyclesFit_startBusReset _
    · exact cyclesFit_of_idle (by simp)
  · exact cyclesFit_of_idle (by simp)
  · next c ho =>
    have hword : cyclesFit (s.setBus (.cycle { w with cycle := none })) = true :=
      (cyclesFit_cycle_iff rfl).mpr ⟨by simpa [BusWork.fits, ho] using hw, fun _ h => by cases h⟩
    have hout := cyclesFit_of_keptOrEnded (channelOutcome_busKeptOrEnded c o _) hword
    dsimp only
    split
    · exact (cyclesFit_congr (by simp)).trans hout
    · exact hout

theorem beginSettle_fits {s : State} (hs : cyclesFit s = true) : cyclesFit (beginSettle s) = true := by
  unfold beginSettle
  split
  · exact hs
  · split
    · exact cyclesFit_of_resetting rfl
    · exact hs
  · exact hs
  · exact hs

theorem endInterval_fits {s : State} (hs : cyclesFit s = true) : cyclesFit (endInterval s) = true := by
  unfold endInterval
  split
  · exact hs
  · exact cyclesFit_of_idle rfl
  · exact hs
  · exact hs

theorem assertReset_fits (held : Nat) {s : State} (hs : cyclesFit s = true) : cyclesFit (assertReset held s) = true := by
  have htake : cyclesFit (takeReset held s) = true := by
    unfold takeReset
    split
    · exact cyclesFit_of_resetting rfl
    · split
      · exact cyclesFit_of_resetting rfl
      · exact hs
  unfold assertReset
  split
  · exact hs
  · exact htake
  · exact htake

/-! ### Every command and every period -/

/-- Every row keeps the law; the command rows are `performCommand` behind the INIT check. -/
theorem exec_fits (i : Instr) {s : State} (hs : cyclesFit s = true) : ∃ t, exec i s = .next t ∧ cyclesFit t = true := by
  have command (c : Instr) : cyclesFit (windowCommand (performCommand c) s) = true :=
    windowCommand_fits (performCommand_fits c hs) hs
  cases i with
  | run | stop | step | flush | busReset | clearFault | softReset | post | pop | profApply | profLoad | srcApply | srcLoad
  | take | endService | arm | chStop | chAck => exact ⟨_, exec_command rfl s, command _⟩
  | unknownCmd w => exact ⟨_, rfl, windowCommand_fits (writeCmd_fits w hs) hs⟩
  | mdataRead running => exact ⟨_, rfl, readMdata_fits running hs⟩
  | mdataWrite data running => exact ⟨_, rfl, writeMdata_fits data running hs⟩
  | configWrite | attnCfgWrite => exact ⟨_, rfl, unlessInit_fits rfl hs⟩
  | windowWrite location w => exact ⟨_, rfl, writeLocation_fits location w hs⟩
  | resetAssert held => exact ⟨_, rfl, assertReset_fits held hs⟩
  | resetDeassert =>
    refine ⟨_, rfl, ?_⟩
    unfold deassertReset
    split
    · exact cyclesFit_of_resetting rfl
    · exact hs
    · exact hs
  | clearSweepEnd =>
    refine ⟨_, rfl, ?_⟩
    unfold endSweep
    split
    · exact endInterval_fits hs
    · exact hs
    · exact hs
  | satnAssertion | satnDeassertion =>
    refine ⟨_, rfl, ?_⟩
    split <;> exact hs
  | identifyIntervalLapse =>
    refine ⟨_, rfl, ?_⟩
    split <;> exact hs
  | dispatchChoice =>
    refine ⟨_, rfl, ?_⟩
    split
    · split
      · exact grantIdentify_fits s
      · exact grantShared_fits hs
    · exact hs
  | responseWindowExpiry => exact ⟨_, rfl, cyclesFit_onCycle (fun _ _ => silence_fits) hs⟩
  | holdLimitReached => exact ⟨_, rfl, cyclesFit_onCycle (fun _ _ => hang_fits) hs⟩
  | stationResponse code => exact ⟨_, rfl, cyclesFit_onCycle (fun _ _ => respond_fits code) hs⟩
  | byteTransfer sad spar => exact ⟨_, rfl, cyclesFit_onCycle (fun _ _ => transferByte_fits sad spar) hs⟩
  | senseSample level => exact ⟨_, rfl, cyclesFit_onCycle (fun _ _ => sampleSense_fits level) hs⟩
  | answerCheckSample high p low q => exact ⟨_, rfl, cyclesFit_onCycle (fun _ _ => checkAnswer_fits high p low q) hs⟩
  | cycleEnd =>
    refine ⟨_, rfl, ?_⟩
    split
    · next w hb =>
      obtain ⟨hw, -⟩ := (cyclesFit_cycle_iff hb).mp hs
      split
      · split
        · exact deliver_fits _ _ hw
        · exact hs
      · exact hs
    · exact hs
    · exact hs
  | backoffExpiry n =>
    refine ⟨_, rfl, ?_⟩
    unfold expireBackoff
    split <;> exact hs
  | busResetIntervalEnd => exact ⟨_, rfl, endInterval_fits hs⟩
  | settlePeriodsBegin => exact ⟨_, rfl, beginSettle_fits hs⟩
  | dividerTakesEffect =>
    refine ⟨_, rfl, ?_⟩
    unfold applyDivider
    split <;> exact hs
  | ccbLoad x => exact ⟨_, rfl, serveSlots_fits inLoad x hs⟩
  | channelCountStep x => exact ⟨_, rfl, serveSlots_fits inCountStep x hs⟩
  | channelAddressStep x => exact ⟨_, rfl, serveSlots_fits inAddressStep x hs⟩
  | channelDataStep x => exact ⟨_, rfl, beginWordCycle_fits x.channel (serveSlots_fits inOutRead x hs)⟩
  | channelRollback x => exact ⟨_, rfl, serveSlots_fits inRollback x hs⟩
  | inDataWrite x => exact ⟨_, rfl, serveSlots_fits inDataWriteStep x hs⟩

/-- Settles O53: the front command keeps the law row by row, an empty queue's period phase by phase. -/
theorem cyclesStayFitting : Obligations.CyclesStayFitting := by
  intro s t hs hstep
  unfold step at hstep
  split at hstep
  · cases hstep
    exact cyclesFit_tick hs
  · next c rest _ =>
    obtain ⟨u, hu, hfit⟩ := exec_fits c (s := { s with pending := rest }) hs
    rw [hu] at hstep
    cases hstep
    exact hfit

end Sys2Proof.Machine
end

section
/-! PROOFS. The events of a cycle (R6 to R16), of the interval (R18, R105) and of the divider (R2): the state each one leaves. -/

namespace Sys2Proof.Machine

/-! ### An event on the cycle in flight -/

/-- An event that moves the cycle's phase moves the state to that phase. -/
theorem onCycle_atPhase {f : BusWork → Cycle → Cycle} {s : State} {w : BusWork} {c d : Cycle} {x : Phase}
    (hb : s.engine.bus = .cycle w) (hc : w.cycle = some c) (hf : f w c = { d with phase := x }) :
    onCycle f s = s.atPhase w d x := by
  simp only [onCycle, hb, hc, hf]
  rfl

/-- An event that leaves the cycle as it is leaves the state as it is. -/
theorem onCycle_unchanged {f : BusWork → Cycle → Cycle} {s : State}
    (hf : ∀ w c, s.engine.bus = .cycle w → w.cycle = some c → f w c = c) : onCycle f s = s := by
  unfold onCycle
  split
  · next w hb =>
    split
    · next c hc =>
      have hw : ({ w with cycle := some c } : BusWork) = w := by rw [← hc]
      rw [hf w c hb hc, setCycle, hw, ← hb]
      rfl
    · rfl
  · rfl
  · rfl

/-! ### The response (R6, R7) -/

theorem hasResponse_iff {k : CycleKind} : k.hasResponse = true ↔ k ≠ .identify := by
  cases k <;> simp [CycleKind.hasResponse]

/-- The response window and the SELECT periods before it, of a kind that has them. -/
theorem beforeResponse_iff {w : BusWork} {c : Cycle} : beforeResponse w c = true ↔
    w.kind ≠ .identify ∧ (c.phase = .select1 ∨ c.phase = .select2 ∨ ∃ k, c.phase = .response k) := by
  unfold beforeResponse
  rw [Bool.and_eq_true, hasResponse_iff]
  cases c.phase <;> simp

theorem respond_ack {w : BusWork} {c : Cycle} (h : beforeResponse w c = true) :
    respond 1#2 w c = { c with phase := afterAck w } := by
  rw [respond, if_pos h]
  rfl

theorem respond_outside (code : BitVec 2) {w : BusWork} {c : Cycle} (h : ¬ beforeResponse w c = true) : respond code w c = c :=
  if_neg h

theorem silence_outside {w : BusWork} {c : Cycle} (h : ¬ beforeResponse w c = true) : silence w c = c :=
  if_neg h

/-- The pulses of a mask are those of the low three bits of the operand. -/
theorem pulseLines_operand (b : Byte) : pulseLines (b.extractLsb' 0 3) =
    (if b.getLsbD 0 then [PulseLine.sk1] else []) ++ (if b.getLsbD 1 then [PulseLine.sk2] else []) ++
      (if b.getLsbD 2 then [PulseLine.sk4] else []) := by
  simp [pulseLines]

/-- Settles O35, by the window (`beforeResponse`) and the code sampled in it. -/
theorem responseDecides : Obligations.ResponseDecides := by
  refine ⟨fun s w c hb hc hk hx => ?_, fun s code hout => ?_⟩
  · have hwin := beforeResponse_iff.mpr ⟨hk, hx⟩
    have ack {x : Phase} (ha : afterAck w = x) : exec (.stationResponse 1#2) s = .next (s.atPhase w c x) :=
      congrArg _ (onCycle_atPhase hb hc (by rw [respond_ack hwin, ha]))
    refine ⟨fun hw => ack ?_, fun hr => ack ?_, fun hct first rest hlines => ack ?_, ?_, ?_, ?_, ?_⟩
    · rw [afterAck, hw]
    · rw [afterAck, hr]
    · simp only [afterAck, hct, pulseLines_operand, hlines, pulseFrom]
    · exact congrArg _ (onCycle_atPhase hb hc (if_pos hwin))
    · exact congrArg _ (onCycle_atPhase hb hc (if_pos hwin))
    · refine congrArg _ (onCycle_unchanged fun v d hv hd => ?_)
      rw [respond]
      split <;> rfl
    · exact congrArg _ (onCycle_atPhase hb hc (if_pos hwin))
  · have hwin (w : BusWork) (c : Cycle) (hb : s.engine.bus = .cycle w) (hc : w.cycle = some c) :
        ¬ beforeResponse w c = true := by
      rw [beforeResponse_iff]
      rintro ⟨hk, hx⟩
      obtain hi | ⟨h1, h2, h3⟩ := hout w c hb hc
      · exact hk hi
      · obtain h | h | ⟨k, h⟩ := hx
        · exact h1 h
        · exact h2 h
        · exact h3 k h
    exact ⟨congrArg _ (onCycle_unchanged fun w c hb hc => respond_outside code (hwin w c hb hc)),
      congrArg _ (onCycle_unchanged fun w c hb hc => silence_outside (hwin w c hb hc))⟩

/-! ### The bytes of the DATA phase (R8, R9, R12) -/

/-- The parity is good exactly where the nine lines carry an odd number of ones (R3). -/
theorem parityGood_iff (b : Byte) (spar : Bool) : parityGood b spar = true ↔ (onesOf b + spar.toNat) % 2 = 1 := by
  unfold parityGood oddParity
  rw [beq_iff_eq]
  cases spar
  · rw [eq_comm, beq_eq_false_iff_ne, Bool.toNat_false]
    omega
  · rw [eq_comm, beq_iff_eq, Bool.toNat_true]
    omega

/-- No byte transfers outside the DATA phase and the TURNAROUND before it. -/
theorem transferByte_outside (sad : Byte) (spar : Bool) {w : BusWork} {c : Cycle} (h : inData w c = false) :
    transferByte sad spar w c = c := by
  unfold transferByte
  split
  case h_6 => rfl
  all_goals
    next hk hx =>
    simp only [inData, hk, hx, Bool.true_eq_false] at h

/-- Settles O36, by the kind and the byte that transfers. -/
theorem bytesTransfer : Obligations.BytesTransfer := by
  refine ⟨parityGood_iff, fun s w c sad spar hb hc => ?_, fun s sad spar hout => ?_⟩
  · have moves {x : Phase} (hf : transferByte sad spar w c = { c with phase := x }) :
        exec (.byteTransfer sad spar) s = .next (s.atPhase w c x) := congrArg _ (onCycle_atPhase hb hc hf)
    intro bad
    have hbad : parityError c sad spar = bad := by
      simp only [parityError, bad]
      cases c.captured <;> rfl
    refine ⟨fun hk hx => moves ?_, fun hk high e hx => moves ?_, fun hk hx => ?_, fun hk high e hx => moves ?_⟩
    · simp only [transferByte, hk, hx]
    · simp only [transferByte, hk, hx, Cycle.decide]
    · obtain hx | hx := hx
      · exact moves (by simp only [transferByte, hk, hx, hbad])
      · exact moves (by simp only [transferByte, hk, hx, hbad])
    · simp only [transferByte, hk, hx, hbad, Cycle.decide, readOutcome]
  · exact congrArg _ (onCycle_unchanged fun w c hb hc => transferByte_outside sad spar (hout w c hb hc))

/-! ### The hold limit, the sense sample and the answer check (R11, R14 to R16) -/

theorem inData_iff {w : BusWork} {c : Cycle} : inData w c = true ↔ (w.kind = .write ∨ w.kind = .read) ∧
    (c.phase = .dataHigh ∨ (∃ high e, c.phase = .dataLow high e) ∨ (w.kind = .read ∧ c.phase = .turnaround)) := by
  unfold inData
  cases w.kind <;> cases c.phase <;> simp

theorem hang_inData {w : BusWork} {c : Cycle} {p : Captured} (h : inData w c = true) (hp : c.captured = some p) :
    hang w c = { c with phase := .ending .busHang, hold := 16 * p.hold.toNat } := by
  rw [hang, if_pos h, holdProduct, hp]
  rfl

theorem hang_outside {w : BusWork} {c : Cycle} (h : inData w c = false) : hang w c = c := by
  rw [hang, h]
  rfl

theorem sampleSense_inside (level : Bool) {w : BusWork} {c : Cycle}
    (h : (∃ lines k, c.phase = .pulse lines k) ∨ ∃ k, c.phase = .sense k) :
    sampleSense level w c = { c with phase := .ending (.ack (some (if level then 1 else 0))) } := by
  obtain ⟨lines, k, h⟩ | ⟨k, h⟩ := h <;> simp only [sampleSense, h, Cycle.decide]

theorem sampleSense_outside (level : Bool) {w : BusWork} {c : Cycle} (hp : ∀ lines k, c.phase ≠ .pulse lines k)
    (hs : ∀ k, c.phase ≠ .sense k) : sampleSense level w c = c := by
  unfold sampleSense
  split
  · next h => exact absurd h (hp _ _)
  · next h => exact absurd h (hs _)
  · rfl

theorem checkAnswer_inside (high : Byte) (p : Bool) (low : Byte) (q : Bool) {w : BusWork} {c : Cycle} (hk : w.kind = .identify)
    (h : c.phase = .select1 ∨ c.phase = .turnaround ∨ ∃ k, c.phase = .answer k) :
    checkAnswer high p low q w c =
      { c with phase := .ending (if parityGood high p && parityGood low q then .answer (high ++ low) else .identifyParity) } := by
  obtain h | h | ⟨k, h⟩ := h <;> simp only [checkAnswer, hk, h, Cycle.decide]

theorem checkAnswer_outside (high : Byte) (p : Bool) (low : Byte) (q : Bool) {w : BusWork} {c : Cycle}
    (h : w.kind ≠ .identify ∨ (c.phase ≠ .select1 ∧ c.phase ≠ .turnaround ∧ ∀ k, c.phase ≠ .answer k)) :
    checkAnswer high p low q w c = c := by
  unfold checkAnswer
  dsimp only
  split
  · next hk hx => exact (h.elim (· hk) fun hout => hout.1 hx).elim
  · next hk hx => exact (h.elim (· hk) fun hout => hout.2.1 hx).elim
  · next k hk hx => exact (h.elim (· hk) fun hout => hout.2.2 k hx).elim
  · rfl

/-- Settles O37, event by event: inside its phases each decides its outcome, outside them it leaves the cycle as it is. -/
theorem holdSenseAndAnswerDecide : Obligations.HoldSenseAndAnswerDecide := by
  refine ⟨fun s w c hb hc => ⟨fun hk hx p hp => ?_, fun level hx => ?_, fun hk hx high p low q => ?_⟩,
    fun s => ⟨fun hout => ?_, fun level hout => ?_, fun high p low q hout => ?_⟩⟩
  · exact congrArg _ (onCycle_atPhase hb hc (hang_inData (inData_iff.mpr ⟨hk, hx⟩) hp))
  · exact congrArg _ (onCycle_atPhase hb hc (sampleSense_inside level hx))
  · exact congrArg _ (onCycle_atPhase hb hc (checkAnswer_inside high p low q hk hx))
  · exact congrArg _ (onCycle_unchanged fun w c hb hc => hang_outside (hout w c hb hc))
  · exact congrArg _ (onCycle_unchanged fun w c hb hc => sampleSense_outside level (hout w c hb hc).1 (hout w c hb hc).2)
  · exact congrArg _ (onCycle_unchanged fun w c hb hc => checkAnswer_outside high p low q (hout w c hb hc))

/-! ### The interval and the divider (R2, R18, R105) -/

theorem beginSettle_asserting {s : State} {k : Nat} {f : Bool} (hb : s.engine.bus = .resetting k f) (hp : s.part ≠ .resetAsserted)
    (hk : k ≤ 32) : beginSettle s = s.setBus (.resetting 33 false) := by
  unfold beginSettle
  split
  · next h => exact absurd h hp
  · next h _ =>
    cases hb.symm.trans h
    exact if_pos hk
  · next h _ => cases hb.symm.trans h
  · next h _ => cases hb.symm.trans h

theorem beginSettle_settling {s : State} {k : Nat} {f : Bool} (hb : s.engine.bus = .resetting k f) (hk : 32 < k) :
    beginSettle s = s := by
  unfold beginSettle
  split
  · rfl
  · next h _ =>
    cases hb.symm.trans h
    exact if_neg (Nat.not_le.mpr hk)
  · rfl
  · rfl

theorem beginSettle_outside {s : State} (h : (∀ k f, s.engine.bus ≠ .resetting k f) ∨ s.part = .resetAsserted) :
    beginSettle s = s := by
  unfold beginSettle
  split
  · rfl
  · next hb hp => exact (h.elim (· _ _ hb) hp).elim
  · rfl
  · rfl

theorem endInterval_running {s : State} {k : Nat} {f : Bool} (hb : s.engine.bus = .resetting k f) (hp : s.part ≠ .resetAsserted) :
    endInterval s = takeDivider (s.setBus .idle) := by
  unfold endInterval
  split
  · next h => exact absurd h hp
  · rfl
  · next h _ => cases hb.symm.trans h
  · next h _ => cases hb.symm.trans h

theorem endInterval_outside {s : State} (h : (∀ k f, s.engine.bus ≠ .resetting k f) ∨ s.part = .resetAsserted) :
    endInterval s = s := by
  unfold endInterval
  split
  · rfl
  · next hb hp => exact (h.elim (· _ _ hb) hp).elim
  · rfl
  · rfl

theorem resetting_iff {s : State} : s.resetting = true ↔ ∃ k f, s.engine.bus = .resetting k f := by
  unfold State.resetting
  cases s.engine.bus <;> simp

theorem cycleInFlight_iff {s : State} : cycleInFlight s = true ↔ ∃ w, s.engine.bus = .cycle w ∧ w.cycle ≠ none := by
  unfold cycleInFlight
  cases s.engine.bus <;> simp [Option.isSome_iff_ne_none]

/-- The written divider waits exactly while a cycle or an interval is in flight (R2). -/
theorem divider_waits_iff {s : State} : (cycleInFlight s || s.resetting) = true ↔
    (∃ k f, s.engine.bus = .resetting k f) ∨ ∃ w, s.engine.bus = .cycle w ∧ w.cycle ≠ none := by
  rw [Bool.or_eq_true, cycleInFlight_iff, resetting_iff, or_comm]

/-- Settles O44, by the bus state and whether RESET# is asserted. -/
theorem intervalAndDividerEvents : Obligations.IntervalAndDividerEvents := by
  refine fun s => ⟨fun k f hb hp => ⟨fun hk => ?_, fun hk => ?_, ?_⟩, fun hout => ⟨?_, ?_⟩, fun hr hc => ?_, fun hw => ?_⟩
  · exact congrArg _ (beginSettle_asserting hb hp hk)
  · exact congrArg _ (beginSettle_settling hb hk)
  · exact congrArg _ (endInterval_running hb hp)
  · exact congrArg _ (beginSettle_outside hout)
  · exact congrArg _ (endInterval_outside hout)
  · refine congrArg _ (if_neg ?_)
    rw [divider_waits_iff]
    rintro (⟨k, f, h⟩ | ⟨w, h, hcyc⟩)
    · exact hr k f h
    · exact hcyc (hc w h)
  · exact congrArg _ (if_pos (divider_waits_iff.mpr hw))

end Sys2Proof.Machine
end

section
/-! PROOFS. One STCLK period with no event (assumption 3): the timers, the interval, the clear sweep, a channel's rollback and
the cycle in flight. -/

namespace Sys2Proof.Machine

/-- On an empty queue a step is one period. -/
theorem step_of_no_command {s : State} (h : s.pending = []) : step s = .next (tick s) := by
  simp only [step, h]

/-! ### What one period leaves (R2) -/

theorem sweepPeriod_frame (s : State) :
    sweepPeriod s = { s with part := (sweepPeriod s).part, xmem := { s.xmem with mem := (sweepPeriod s).xmem.mem } } := by
  unfold sweepPeriod
  split <;> rfl

/-- A period moves the sweep, the bus state, the timers and the channels that roll back, and nothing else. -/
theorem tick_frame (s : State) : tick s =
    { s with
      part := (tick s).part
      engine := { s.engine with bus := (tick s).engine.bus }
      rq := { s.rq with backoff := (tick s).rq.backoff }
      xmem := { s.xmem with mem := (tick s).xmem.mem }
      channels := (tick s).channels
      attn := { s.attn with timer := (tick s).attn.timer } } := by
  unfold tick
  dsimp only
  rw [sweepPeriod_frame s]

theorem tick_rq (s : State) : (tick s).rq =
    { s.rq with backoff := Vector.ofFn fun n : Station => backoffPeriod s.resetting s.rq.backoff[n] } := by
  unfold tick
  dsimp only
  rw [sweepPeriod_frame s]

theorem tick_attn (s : State) : (tick s).attn = { s.attn with timer := intervalPeriod s.resetting s.attn.timer } := by
  unfold tick
  dsimp only
  rw [sweepPeriod_frame s]

/-! ### The timers (R55, R152) -/

theorem tick_backoff (s : State) (n : Station) : (tick s).rq.backoff[n] = backoffPeriod s.resetting s.rq.backoff[n] := by
  simp [tick_rq]

theorem resetting_eq_false {s : State} (h : ∀ k f, s.engine.bus ≠ .resetting k f) : s.resetting = false := by
  rw [← Bool.not_eq_true, resetting_iff]
  rintro ⟨k, f, hb⟩
  exact h k f hb

theorem backoffPeriod_running (t : Option Nat) : backoffPeriod false t = t.map fun k => if 1 < k then k - 1 else k := rfl

theorem backoffPeriod_resetting (t : Option Nat) : backoffPeriod true t = t := rfl

theorem intervalPeriod_running (t : IntervalTimer) : intervalPeriod false t =
    (match t with
      | .running k => .running (if 1 < k then k - 1 else k)
      | .stopped => .stopped
      | .lapsed => .lapsed) := by
  cases t with
  | running k => by_cases hk : 1 < k <;> simp [intervalPeriod, hk]
  | stopped | lapsed => rfl

theorem intervalPeriod_resetting (t : IntervalTimer) : intervalPeriod true t = t := by
  cases t <;> rfl

/-- In an interval no timer of the queue runs. -/
theorem tick_rq_resetting {s : State} (h : s.resetting = true) : (tick s).rq = s.rq := by
  have hb : (Vector.ofFn fun n : Station => backoffPeriod true s.rq.backoff[n]) = s.rq.backoff := Vector.ofFn_getElem
  rw [tick_rq, h, hb]

/-- In an interval the identify interval timer does not run. -/
theorem tick_attn_resetting {s : State} (h : s.resetting = true) : (tick s).attn = s.attn := by
  rw [tick_attn, h, intervalPeriod_resetting]

/-! ### The bus state (R18, R20) -/

/-- The interval goes on but for its 32nd and 64th periods, whose ends are rows. -/
theorem busPeriod_interval {part : PartPhase} {k : Nat} {f : Bool} (hp : part ≠ .resetAsserted) (hk : k ≠ 32) (hl : k < 64) :
    busPeriod part (.resetting k f) = .resetting (k + 1) false := by
  have hn : ¬ (k = Config.resetAssertPeriods ∨ Config.resetPeriods ≤ k) := by
    simp only [Config.resetAssertPeriods, Config.resetPeriods]
    omega
  cases part with
  | resetAsserted => exact absurd rfl hp
  | init | running => exact if_neg hn

theorem busPeriod_interval_stays {part : PartPhase} {k : Nat} {f : Bool} (h : part = .resetAsserted ∨ k = 32 ∨ 64 ≤ k) :
    busPeriod part (.resetting k f) = .resetting k f := by
  cases part with
  | resetAsserted => rfl
  | init | running =>
    obtain h | h := h
    · cases h
    · exact if_pos h

/-! ### The clear sweep (R116) -/

theorem sweepPeriod_outside {s : State} (h : ∀ k, s.part ≠ .init k) : sweepPeriod s = s := by
  unfold sweepPeriod
  split
  · next k hk => exact absurd hk (h k)
  · rfl
  · rfl

/-- The sweep stands at its last address FFFh, or after the words of one period. -/
theorem sweepPeriod_init {s : State} {k : Nat} (h : s.part = .init k) :
    sweepPeriod s =
      { s.setMem (Memory.clear s.xmem.mem k (min (s.engine.divider.toNat + 1) (4095 - k))) with
        part := .init (k + min (s.engine.divider.toNat + 1) (4095 - k)) } := by
  simp only [sweepPeriod, h]

theorem tick_sweep (s : State) : (tick s).part = (sweepPeriod s).part ∧ (tick s).xmem = (sweepPeriod s).xmem := ⟨rfl, rfl⟩

/-! ### A channel's rollback (R55) -/

theorem tick_channels (s : State) (c : Channel) : (tick s).channels[c] = channelPeriod s.channels[c] := by
  simp [tick]

theorem channelPeriod_other {r : ChannelRec} (hc : ∀ n, r.state ≠ .moving (.rollCount (.defer n)))
    (ha : ∀ n, r.state ≠ .moving (.rollAddr (.defer n))) : channelPeriod r = r := by
  unfold channelPeriod
  split
  · next h => exact absurd h (hc _)
  · next h => exact absurd h (ha _)
  · rfl

/-- Settles O3, block by block of what a period moves. -/
theorem emptyQueuePeriod : Obligations.EmptyQueuePeriod := by
  refine fun s hs => ⟨tick s, step_of_no_command hs, tick_frame s, fun hr => ⟨fun n => ?_, ?_⟩, fun hb => ?_,
    fun k f hb => ?_, fun c => ⟨fun n hc => ?_, fun n hc => ?_, fun h1 h2 => ?_⟩, fun hp => ?_, fun k hp hk hm => ?_⟩
  · rw [tick_backoff, resetting_eq_false hr, backoffPeriod_running]
  · rw [tick_attn, resetting_eq_false hr]
    exact intervalPeriod_running _
  · rw [tick_engine_bus]
    obtain hb | ⟨w, hb, hw⟩ := hb
    · rw [hb]
      rfl
    · simp only [hb, busPeriod, hw, Option.map_none]
      rw [← hw]
  · have hr := resetting_iff.mpr ⟨k, f, hb⟩
    refine ⟨tick_rq_resetting hr, tick_attn_resetting hr, fun hp h32 h64 => ?_, fun h => ?_⟩
    · rw [tick_engine_bus, hb, busPeriod_interval hp h32 h64]
    · rw [tick_engine_bus, hb, busPeriod_interval_stays h]
  · rw [tick_channels, channelPeriod, hc]
  · rw [tick_channels, channelPeriod, hc]
  · rw [tick_channels, channelPeriod_other h1 h2]
  · obtain ⟨hpart, hxmem⟩ := tick_sweep s
    rw [hpart, hxmem, sweepPeriod_outside hp]
    exact ⟨rfl, rfl⟩
  · obtain ⟨hpart, hxmem⟩ := tick_sweep s
    have hn : k + min (s.engine.divider.toNat + 1) (4095 - k) = min (k + (s.engine.divider.toNat + 1)) 4095 := by omega
    rw [hpart, hxmem, sweepPeriod_init hp]
    refine ⟨congrArg _ hn, Memory.clear_wf hm _ _, fun a _ => ?_⟩
    rw [← hn]
    exact Memory.read_clear hm k _ a (by omega)

end Sys2Proof.Machine
end

section
/-! PROOFS. One period of a station bus cycle (R4 to R15) and the output lines in every bus state (R1 to R20). -/

namespace Sys2Proof.Machine

/-! ### A period of the cycle in flight -/

theorem tick_engine (s : State) : (tick s).engine = { s.engine with bus := busPeriod s.part s.engine.bus } := by
  unfold tick
  dsimp only
  rw [sweepPeriod_frame s]

/-- With a cycle in flight a period moves the cycle and leaves the rest of the Engine. -/
theorem tick_engine_of_cycle {s : State} {w : BusWork} {c : Cycle} (hb : s.engine.bus = .cycle w) (hc : w.cycle = some c) :
    (tick s).engine = { s.engine with bus := .cycle { w with cycle := some (cyclePeriod w c) } } := by
  rw [tick_engine, hb]
  simp only [busPeriod, hc, Option.map_some]

theorem nextPhase_select1 (k : CycleKind) (p : Captured) :
    nextPhase k p .select1 = if k = .identify then .turnaround else .select2 := by
  cases k <;> rfl

theorem nextPhase_turnaround (k : CycleKind) (p : Captured) :
    nextPhase k p .turnaround = if k = .identify then .answer 1 else .dataHigh := by
  cases k <;> rfl

theorem nextPhase_answer (k : CycleKind) (p : Captured) (i : Nat) :
    nextPhase k p (.answer i) = .answer (if i < 4 then i + 1 else i) := by
  simp only [nextPhase]
  split <;> rfl

theorem nextPhase_response (k : CycleKind) (p : Captured) (i : Nat) :
    nextPhase k p (.response i) = .response (if i < p.window.toNat then i + 1 else i) := by
  simp only [nextPhase]
  split <;> rfl

theorem nextPhase_sense (k : CycleKind) (p : Captured) (i : Nat) :
    nextPhase k p (.sense i) = .sense (if i < p.spacing.toNat then i + 1 else i) := by
  simp only [nextPhase]
  split <;> rfl

/-- After its spacing and its pulse a line makes way for the next one, the last for SENSE (R13, R14). -/
theorem nextPhase_pulse (k : CycleKind) (p : Captured) (l : PulseLine) (rest : List PulseLine) (i : Nat) :
    nextPhase k p (.pulse (l :: rest) i) =
      if i ≤ p.spacing.toNat then .pulse (l :: rest) (i + 1) else if rest = [] then .sense 1 else .pulse rest 1 := by
  cases rest <;> rfl

theorem nextPhase_data {k : CycleKind} {p : Captured} {x : Phase} (h : x.isData = true) : nextPhase k p x = x := by
  cases x with
  | dataHigh | dataLow => rfl
  | select1 | select2 | response | turnaround | pulse | sense | answer | ending => cases h

theorem Phase.isData_iff {x : Phase} : x.isData = true ↔ x = .dataHigh ∨ ∃ high e, x = .dataLow high e := by
  cases x <;> simp [Phase.isData]

/-- A DATA period counts as stretched, short of the hold limit (R10). -/
theorem cyclePeriod_hold_data {w : BusWork} {c : Cycle} {p : Captured} (hp : c.captured = some p) (hd : c.phase.isData = true) :
    (cyclePeriod w c).hold = if c.hold + 1 < 16 * p.hold.toNat then c.hold + 1 else c.hold := by
  simp only [cyclePeriod, holdProduct, hp, hd, true_and, Option.map_some, Option.getD_some]

/-- Outside the DATA phase no period counts. -/
theorem cyclePeriod_hold_other {w : BusWork} {c : Cycle} (hd : c.phase.isData = false) : (cyclePeriod w c).hold = c.hold := by
  simp [cyclePeriod, hd]

/-- A cycle in its END period stays there until its end is taken. -/
theorem cyclePeriod_ending {w : BusWork} {c : Cycle} {o : CycleOutcome} (h : c.phase = .ending o) : cyclePeriod w c = c := by
  simp only [cyclePeriod, h, nextPhase, Phase.isData, Bool.false_eq_true, false_and, if_false]
  rw [← h]

/-! ### The output lines (R1, R3, R18, R20) -/

theorem pins_idle {s : State} (h : s.engine.bus = .idle ∨ ∃ w, s.engine.bus = .cycle w ∧ w.cycle = none) : pins s = idlePins := by
  obtain hb | ⟨w, hb, hc⟩ := h
  · simp only [pins, hb]
  · simp only [pins, hb, hc]

/-- In an interval the lines are idle but for SRST#, and SAD and SPAR while they float. -/
theorem pins_resetting {s : State} {k : Nat} {f : Bool} (hb : s.engine.bus = .resetting k f) :
    pins s =
      { idlePins with
        sad := if k = 1 ∧ f = true then none else some 0
        spar := if k = 1 ∧ f = true then none else some true
        srst := decide (k ≤ Config.resetAssertPeriods) || s.part == .resetAsserted } := by
  simp only [pins, hb]
  by_cases hk : k = 1 <;> cases f <;> simp [hk, idlePins]

theorem pins_cycle {s : State} {w : BusWork} {c : Cycle} (hb : s.engine.bus = .cycle w) (hc : w.cycle = some c) :
    pins s = phasePins w c := by
  simp only [pins, hb, hc]

/-- The part drives a byte with its parity: SAD and SPAR carry an odd number of ones (R3). -/
def Pins.Drives (p : Pins) (b : Byte) : Prop :=
  p.sdir = false ∧ p.sad = some b ∧ ∃ q, p.spar = some q ∧ (onesOf b + q.toNat) % 2 = 1

/-- SDIR is 1 and the part has released SAD and SPAR to the stations (R1). -/
def Pins.Releases (p : Pins) : Prop := p.sdir = true ∧ p.sad = none ∧ p.spar = none

/-- The level of a pulse line. -/
def Pins.pulses (p : Pins) : PulseLine → Bool
  | .sk1 => p.sk1
  | .sk2 => p.sk2
  | .sk4 => p.sk4

theorem oddParity_odd (b : Byte) : (onesOf b + (oddParity b).toNat) % 2 = 1 :=
  (parityGood_iff b (oddParity b)).mp (by simp [parityGood])

theorem drivePins_drives (b : Byte) : (drivePins b).Drives b := ⟨rfl, rfl, oddParity b, rfl, oddParity_odd b⟩

theorem idlePins_drives : idlePins.Drives 0x00#8 := ⟨rfl, rfl, true, rfl, by decide⟩

theorem releasedPins_releases : releasedPins.Releases := ⟨rfl, rfl, rfl⟩

/-- The first select byte carries the station, 0 for an IDENTIFY, and the kind (R5). -/
theorem selectByte1_eq (w : BusWork) : selectByte1 w =
    BitVec.ofNat 4 ((w.station.map Station.number).getD 0) ++
      (match w.kind with | .write => 1#4 | .read => 2#4 | .control => 3#4 | .identify => 8#4) := by
  unfold selectByte1
  cases w.station <;> cases w.kind <;> rfl

theorem phasePins_srst (w : BusWork) (c : Cycle) : (phasePins w c).srst = false := by
  unfold phasePins
  split
  case h_5 | h_6 | h_10 => split <;> rfl
  all_goals rfl

theorem phasePins_ssel (w : BusWork) (c : Cycle) : (phasePins w c).ssel = true ↔ c.phase.isEnding = false := by
  unfold phasePins
  split
  case h_5 h | h_6 h => split <;> simp [h, Phase.isEnding, drivePins, releasedPins]
  case h_10 h => split <;> simp [h, Phase.isEnding, idlePins]
  all_goals
    next h => simp [h, Phase.isEnding, drivePins, releasedPins]

theorem phasePins_drives_select1 {w : BusWork} {c : Cycle} (h : c.phase = .select1) : (phasePins w c).Drives (selectByte1 w) := by
  simp only [phasePins, h]
  exact drivePins_drives _

/-- The part drives the bytes of a WRITE, the high one first (R8). -/
theorem phasePins_drives_high {w : BusWork} {c : Cycle} (hk : w.kind = .write) (h : c.phase = .dataHigh) :
    (phasePins w c).Drives (w.data.extractLsb' 8 8) := by
  simp only [phasePins, h, hk]
  exact drivePins_drives _

theorem phasePins_drives_low {w : BusWork} {c : Cycle} (hk : w.kind = .write) (high : Byte) (e : Bool)
    (h : c.phase = .dataLow high e) : (phasePins w c).Drives (w.data.extractLsb' 0 8) := by
  simp only [phasePins, h, hk]
  exact drivePins_drives _

/-- Between the select bytes and the data, and in the pulses, the part goes on driving the second select byte (R5, R13). -/
theorem phasePins_drives_operand {w : BusWork} {c : Cycle}
    (h : c.phase = .select2 ∨ (∃ k, c.phase = .response k) ∨ (∃ l k, c.phase = .pulse l k) ∨ ∃ k, c.phase = .sense k) :
    (phasePins w c).Drives w.operand := by
  obtain h | ⟨k, h⟩ | ⟨l, k, h⟩ | ⟨k, h⟩ := h <;> simp only [phasePins, h] <;> exact drivePins_drives w.operand

theorem phasePins_releases {w : BusWork} {c : Cycle}
    (h : c.phase = .turnaround ∨ (∃ k, c.phase = .answer k) ∨
      (w.kind = .read ∧ (c.phase = .dataHigh ∨ ∃ high e, c.phase = .dataLow high e))) : (phasePins w c).Releases := by
  obtain h | ⟨k, h⟩ | ⟨hk, h | ⟨high, e, h⟩⟩ := h
  · simp only [phasePins, h]
    exact releasedPins_releases
  · simp only [phasePins, h]
    exact releasedPins_releases
  · simp only [phasePins, h, hk]
    exact releasedPins_releases
  · simp only [phasePins, h, hk]
    exact releasedPins_releases

/-- In END the lines are idle, but for SAD and SPAR where the outcome was decided with SDIR at 1. -/
theorem phasePins_ending (w : BusWork) {c : Cycle} {o : CycleOutcome} (h : c.phase = .ending o) :
    phasePins w c = if releasedAtEnd w.kind o then { idlePins with sad := none, spar := none } else idlePins := by
  simp only [phasePins, h]

/-- After the stations have driven the lines, SAD and SPAR stay released through END. -/
theorem phasePins_ending_releases {w : BusWork} {c : Cycle} {o : CycleOutcome} (h : c.phase = .ending o)
    (ho : w.kind = .identify ∨ (w.kind = .read ∧ ((∃ d, o = .ack d) ∨ (∃ d, o = .parity d) ∨ o = .busHang))) :
    (phasePins w c).sdir = false ∧ (phasePins w c).sad = none ∧ (phasePins w c).spar = none := by
  have hr : releasedAtEnd w.kind o = true := by
    obtain hk | ⟨hk, ⟨d, rfl⟩ | ⟨d, rfl⟩ | rfl⟩ := ho <;> rw [hk] <;> rfl
  rw [phasePins_ending w h, hr]
  exact ⟨rfl, rfl, rfl⟩

/-- Where the part has driven the lines to the end it drives the idle byte in END. -/
theorem phasePins_ending_drives {w : BusWork} {c : Cycle} {o : CycleOutcome} (h : c.phase = .ending o)
    (ho : w.kind = .write ∨ w.kind = .control ∨ (w.kind = .read ∧ (o = .defer ∨ o = .protocol ∨ o = .noResponse))) :
    (phasePins w c).Drives 0x00#8 := by
  have hr : releasedAtEnd w.kind o = false := by
    obtain hk | hk | ⟨hk, rfl | rfl | rfl⟩ := ho <;> rw [hk] <;> rfl
  rw [phasePins_ending w h, hr]
  exact idlePins_drives

/-- The condition `phasePins` puts on a pulse line: the first of the lines left, in the period after its spacing (R13). -/
theorem fired_iff {cap : Option Captured} {lines : List PulseLine} {k : Nat} {l : PulseLine} :
    ((cap.map fun p => decide (k = p.spacing.toNat + 1)).getD false && lines.head? == some l) = true ↔
      ∃ p rest, cap = some p ∧ Phase.pulse lines k = .pulse (l :: rest) (p.spacing.toNat + 1) := by
  cases cap with
  | none => simp
  | some p =>
    cases lines with
    | nil => simp
    | cons m rest => simp [and_comm]

/-- A pulse line is asserted in the last period of its own pulse only (R13). -/
theorem phasePins_pulses_iff (w : BusWork) (c : Cycle) (l : PulseLine) : (phasePins w c).pulses l = true ↔
    ∃ p rest, c.captured = some p ∧ c.phase = .pulse (l :: rest) (p.spacing.toNat + 1) := by
  by_cases hx : ∃ lines k, c.phase = .pulse lines k
  · obtain ⟨lines, k, hx⟩ := hx
    simp only [phasePins, hx]
    rw [← fired_iff]
    cases l <;> rfl
  · have hlow : (phasePins w c).pulses l = false := by
      unfold phasePins
      split
      case h_7 h => exact absurd ⟨_, _, h⟩ hx
      case h_5 | h_6 | h_10 => split <;> cases l <;> rfl
      all_goals cases l <;> rfl
    rw [hlow]
    refine iff_of_false Bool.false_ne_true ?_
    rintro ⟨p, rest, -, h⟩
    exact absurd ⟨_, _, h⟩ hx

/-! ### The statement -/

/-- Settles O4: the cycle by `cyclePeriod`, the lines by `phasePins` and the two states without a cycle. -/
theorem periodOfCycle : Obligations.PeriodOfCycle := by
  refine ⟨fun s w c hs hb hc => ?_,
    fun s => ⟨fun h => pins_idle h, fun k f hb => ⟨?_, fun h => ?_, fun h => ?_⟩, fun w c hb hc => ?_⟩⟩
  · have hf := tick_frame s
    have hnext : (cyclePeriod w c).phase = nextPhase w.kind (c.captured.getD noCapture) c.phase := rfl
    refine ⟨tick s, cyclePeriod w c, step_of_no_command hs, tick_engine_of_cycle hb hc, rfl, by rw [hf], by rw [hf], by rw [hf],
      by rw [hf], by rw [hf], fun h => ?_, fun h => ?_, fun h => ?_, fun k h => ?_, fun o h => cyclePeriod_ending h,
      fun p hp => ⟨fun k h => ?_, fun k h => ?_, fun l rest k h => ?_, fun h => ?_, fun h1 h2 => ?_⟩⟩
    · rw [hnext, h, nextPhase_select1]
    · rw [hnext, h, nextPhase]
    · rw [hnext, h, nextPhase_turnaround]
    · rw [hnext, h, nextPhase_answer]
    · rw [hnext, h, hp, nextPhase_response, Option.getD_some]
    · rw [hnext, h, hp, nextPhase_sense, Option.getD_some]
    · rw [hnext, h, hp, nextPhase_pulse, Option.getD_some]
    · have hd := Phase.isData_iff.mpr h
      exact ⟨nextPhase_data hd, cyclePeriod_hold_data hp hd⟩
    · refine cyclePeriod_hold_other ?_
      rw [← Bool.not_eq_true, Phase.isData_iff]
      rintro (h | ⟨high, e, h⟩)
      · exact h1 h
      · exact h2 high e h
  · simp only [pins_resetting hb, Bool.or_eq_true, decide_eq_true_eq, beq_iff_eq]
    rfl
  · rw [pins_resetting hb]
    simp [h, idlePins]
  · have hn : ¬ (k = 1 ∧ f = true) := by
      rintro ⟨hk, hf⟩
      obtain h | h := h
      · exact h hk
      · rw [hf] at h
        cases h
    rw [pins_resetting hb]
    simp only [if_neg hn]
    rfl
  · rw [pins_cycle hb hc]
    intro first drives fires
    have hfirst : first = selectByte1 w := (selectByte1_eq w).symm
    rw [hfirst]
    exact ⟨phasePins_srst w c, phasePins_ssel w c, phasePins_drives_select1, phasePins_drives_operand, phasePins_drives_high,
      phasePins_drives_low, phasePins_releases, fun o h => ⟨phasePins_ending_releases h, phasePins_ending_drives h⟩,
      phasePins_pulses_iff w c .sk1, phasePins_pulses_iff w c .sk2, phasePins_pulses_iff w c .sk4⟩

end Sys2Proof.Machine
end

section
/-! PROOFS. Halts, faults and retirements in the words of the statements (`State.toRun`, `faultAfter`, `State.retired`), and
what a bus reset does after the owner of the work on the bus has met it (R60, R104, R146, R164). -/

namespace Sys2Proof.Machine

/-! ### Run states (R93, R98, R99) -/

theorem toRun_self (s : State) : s.toRun s.engine.run = s := by
  have h : (s.engine.run == .halted && s.engine.run != .halted && (s.lineOf Source.halted).isSome) = false := by
    cases s.engine.run <;> rfl
  unfold State.toRun
  rw [h, Bool.or_false]

/-- Of two changes of the run state the last one stands, where no step leads out of HALTED. -/
theorem toRun_toRun {s : State} {a b : RunState} (ha : s.engine.run = .halted → a = .halted) (hb : a = .halted → b = .halted) :
    (s.toRun a).toRun b = s.toRun b := by
  by_cases h : a = .halted
  · rw [h, hb h]
    simp [State.toRun]
  · have hs : s.engine.run ≠ .halted := fun hr => h (ha hr)
    have hline : (s.toRun a).lineOf Source.halted = s.lineOf Source.halted := rfl
    have ha' : (a == .halted) = false := by simpa using h
    have hs' : (s.engine.run == .halted) = false := by simpa using hs
    unfold State.toRun at hline ⊢
    rw [hline]
    simp [ha', hs', bne]

theorem enterHalted_eq {s : State} (h : s.engine.run ≠ .halted) : enterHalted s = s.toRun .halted := by
  have hp : (RunState.halted == .halted && s.engine.run != .halted && (s.lineOf Source.halted).isSome) =
      (s.lineOf Source.halted).isSome := by
    simp [h]
  unfold State.toRun
  rw [hp]
  rfl

/-- The end of bus work halts a stopping and a stepping engine (R93). -/
theorem workEnded_eq (s : State) : workEnded s = s.toRun (runAfterWork false s.engine.run) := by
  have hself := toRun_self s
  unfold workEnded
  split
  · next h =>
    rw [enterHalted_eq (by simp [h]), h]
    rfl
  · next h =>
    rw [enterHalted_eq (by simp [h]), h]
    rfl
  · next h =>
    rw [h] at hself
    rw [h]
    exact hself.symm
  · next h =>
    rw [h] at hself
    rw [h]
    exact hself.symm

theorem runAfterTrigger_false (busy : Bool) (r : RunState) : runAfterTrigger false busy r = r := by
  cases r <;> rfl

theorem runAfterTrigger_halted (trigger busy : Bool) : runAfterTrigger trigger busy .halted = .halted := rfl

theorem setRun_eq_toRun {s : State} {r : RunState} (h : r ≠ .halted) : s.setRun r = s.toRun r := by
  have hr : (r == .halted) = false := by simpa using h
  simp [State.setRun, State.toRun, hr]

/-- A halt trigger takes the run state of R98's table. -/
theorem haltTrigger_eq (s : State) : haltTrigger s = s.toRun (runAfterTrigger s.cfg.haltOnError s.busy s.engine.run) := by
  have hself := toRun_self s
  cases he : s.cfg.haltOnError with
  | false => rw [haltTrigger_clear he, runAfterTrigger_false, hself]
  | true =>
    cases hr : s.engine.run with
    | running | stepping =>
      simp only [haltTrigger, he, hr, if_true, runAfterTrigger]
      split
      · exact setRun_eq_toRun (by decide)
      · exact enterHalted_eq (by simp [hr])
    | stopping | halted =>
      rw [hr] at hself
      simp only [haltTrigger, he, hr, if_true, runAfterTrigger, hself]

/-- Two triggers on an idle engine are one. -/
theorem runAfterTrigger_trans (a b : Bool) (r : RunState) :
    runAfterTrigger b false (runAfterTrigger a false r) = runAfterTrigger (a || b) false r := by
  cases r <;> cases a <;> rfl

/-- A trigger after the end of bus work is a failure of that work. -/
theorem runAfterTrigger_runAfterWork (a b : Bool) (r : RunState) :
    runAfterTrigger b false (runAfterWork a r) = runAfterWork (a || b) r := by
  cases r <;> cases a <;> rfl

theorem runAfterWork_halted (b : Bool) : runAfterWork b .halted = .halted := rfl

/-! ### Faults (R101, R102, R185) -/

theorem writeFault_eq (k : FaultKind) (n : Option Station) (s : State) :
    writeFault k n s = { s with fault := faultAfter s.fault k n } := by
  unfold writeFault faultAfter
  cases s.fault <;> rfl

theorem writeCycleFault_eq (o : CycleOutcome) (n : Option Station) (s : State) :
    writeCycleFault o n s = { s with fault := o.faultRecord n s.fault } := by
  cases o with
  | protocol | busHang => exact writeFault_eq _ n s
  | ack | defer | noResponse | parity | answer | identifyParity | cut => rfl

/-! ### Retirement (R50, R72, R73) -/

theorem retired_engine (s : State) (r : Request) (st : Status) (d : Word) : (s.retired r st d).engine = s.engine := by
  unfold State.retired
  split <;> rfl

theorem retired_cfg (s : State) (r : Request) (st : Status) (d : Word) : (s.retired r st d).cfg = s.cfg := by
  unfold State.retired
  split <;> rfl

theorem retired_channels (s : State) (r : Request) (st : Status) (d : Word) : (s.retired r st d).channels = s.channels := by
  unfold State.retired
  split <;> rfl

/-- A failing retirement is a halt trigger (R98). -/
theorem retire_eq (r : Request) (st : Status) (d : Word) (s : State) : retire r st d s =
    (s.retired r st d).toRun (runAfterTrigger (s.cfg.haltOnError && st != .ok) s.busy s.engine.run) := by
  by_cases hok : st = .ok
  · have ht : (s.cfg.haltOnError && st != .ok) = false := by simp [hok]
    have hself := toRun_self (s.retired r st d)
    rw [retired_engine] at hself
    rw [ht, runAfterTrigger_false, hself]
    unfold retire State.retired
    cases r.body.isSilent <;> simp [hok, silentSuccess, appendCompletion, completionOf]
  · have ht : (s.cfg.haltOnError && st != .ok) = s.cfg.haltOnError := by simp [hok]
    have happend : s.retired r st d = appendCompletion r st d s := by
      unfold State.retired
      rw [if_neg fun h => hok h.1]
      rfl
    rw [ht, happend, retire, if_neg hok, haltTrigger_eq]
    rfl

/-- The request retires with the status of its outcome (R51, R53, R54). -/
theorem requestOutcome_retires {t : Tag} {o : CycleOutcome} {r : Request} {st : Status} {d : Word} {s : State}
    (hf : s.rq.records.find? (fun x => x.tag = t) = some r) (ho : o.retires = some (st, d)) :
    requestOutcome t o s = retire r st d s := by
  cases o with
  | ack | noResponse | protocol | parity | busHang | cut =>
    cases ho
    simp only [requestOutcome, hf]
  | defer | answer | identifyParity => cases ho

theorem requestOutcome_defer {t : Tag} {r : Request} {n : Station} {s : State}
    (hf : s.rq.records.find? (fun x => x.tag = t) = some r) (hn : r.body.station = some n) :
    requestOutcome t .defer s = deferRequest r n s := by
  simp only [requestOutcome, hf, hn]

/-! ### The channels at the start of a bus reset (R146) -/

theorem busy_eq_false {s : State} {k : Nat} {f : Bool} (h : s.engine.bus = .resetting k f) : s.busy = false := by
  simp [State.busy, h]

theorem enterFaulted_eq (c : Channel) (x : Reason) (s : State) : enterFaulted c x s =
    (s.setChannel c ((s.channels[c]).ends .faulted x)).toRun (runAfterTrigger s.cfg.haltOnError s.busy s.engine.run) :=
  haltTrigger_eq _

/-- The halt trigger one channel gives at the start of a bus reset. -/
def State.channelTriggers (s : State) (c : Channel) : Bool := s.cfg.haltOnError && (s.channels[c]).state.isLoadingOrActive

theorem channelMeetsReset_eq {c : Channel} {s : State} (hb : s.busy = false) : channelMeetsReset c s =
    (s.setChannel c (s.channels[c]).atReset).toRun (runAfterTrigger (s.channelTriggers c) false s.engine.run) := by
  have faults (h : (s.channels[c]).state.isLoadingOrActive = true) : enterFaulted c .busReset s =
      (s.setChannel c (s.channels[c]).atReset).toRun (runAfterTrigger (s.channelTriggers c) false s.engine.run) := by
    rw [enterFaulted_eq, hb, ChannelRec.atReset, if_pos h, State.channelTriggers, h, Bool.and_true]
  have stays (h : (s.channels[c]).state.isLoadingOrActive = false) : s =
      (s.setChannel c (s.channels[c]).atReset).toRun (runAfterTrigger (s.channelTriggers c) false s.engine.run) := by
    have hset : s.setChannel c s.channels[c] = s := by
      unfold State.setChannel
      rw [Fin.getElem_fin, Vector.set_getElem_self]
    rw [ChannelRec.atReset, h, State.channelTriggers, h, Bool.and_false, runAfterTrigger_false, if_neg Bool.false_ne_true, hset,
      toRun_self]
  unfold channelMeetsReset
  split
  case h_1 h | h_2 h => exact faults (by rw [h]; rfl)
  all_goals
    next h => exact stays (by rw [h]; rfl)

/-- One more channel takes its effect, in a run state `r` that earlier channels may have left. -/
theorem channelMeetsReset_next {s : State} {r : RunState} (c : Channel) (b : Bool) (h : s.busy = false ∧ s.engine.run = r) :
    channelMeetsReset c (s.toRun (runAfterTrigger b false r)) =
      (s.setChannel c (s.channels[c]).atReset).toRun (runAfterTrigger (b || s.channelTriggers c) false r) := by
  obtain ⟨hb, hr⟩ := h
  refine (channelMeetsReset_eq (s := s.toRun (runAfterTrigger b false r)) hb).trans ?_
  change ((s.setChannel c (s.channels[c]).atReset).toRun (runAfterTrigger b false r)).toRun
    (runAfterTrigger (s.channelTriggers c) false (runAfterTrigger b false r)) = _
  rw [toRun_toRun (fun hs => ?_) (fun hh => ?_), runAfterTrigger_trans]
  · have hh : r = .halted := hr.symm.trans hs
    rw [hh, runAfterTrigger_halted]
  · rw [hh, runAfterTrigger_halted]

/-- Every channel takes its effect, and the engine halts where one of them gives a trigger. -/
theorem channelsMeetReset_eq {s : State} (hb : s.busy = false) : channelsMeetReset s =
    ({ s with channels := s.channels.map ChannelRec.atReset } : State).toRun
      (runAfterTrigger s.resetTriggers false s.engine.run) := by
  have hstart : s = s.toRun (runAfterTrigger false false s.engine.run) := by rw [runAfterTrigger_false, toRun_self]
  unfold channelsMeetReset
  conv_lhs => rw [hstart]
  rw [channelMeetsReset_next, channelMeetsReset_next, channelMeetsReset_next, channelMeetsReset_next]
  case h => exact ⟨hb, rfl⟩
  · unfold State.setChannel
    congr 2
    · ext i hi
      interval_cases i <;> simp
    · cases he : s.cfg.haltOnError <;> simp [State.resetTriggers, State.channelTriggers, he, List.finRange, Bool.or_assoc]
  all_goals exact ⟨hb, rfl⟩

/-- What follows the owner's part in a bus reset: the queue, the channels and the Attention Controller take their effects. -/
theorem owners_meet_reset {s : State} {f : Bool} (hb : s.engine.bus = .resetting 1 f) :
    clearAttention (channelsMeetReset (requestsMeetReset s)) =
      (s.busReset f).toRun (runAfterTrigger s.resetTriggers false s.engine.run) := by
  rw [channelsMeetReset_eq (s := requestsMeetReset s) (busy_eq_false hb)]
  have hbus : s.engine = { s.engine with bus := .resetting 1 f } := by rw [← hb]
  unfold State.busReset
  rw [← hbus]
  rfl

end Sys2Proof.Machine
end

section
/-! PROOFS. BUS_RESET with bus work of a request or an IDENTIFY in flight (R19, R52, R54, R104, R160). -/

namespace Sys2Proof.Machine

/-! ### The state the owner of the work meets (R104) -/

/-- The state in which the owner takes its outcome: the interval has begun, and the run state has followed the end of the work. -/
def State.interrupted (s : State) : State := workEnded (s.setBus (resettingFrom s))

theorem interrupted_eq (s : State) : s.interrupted = (s.setBus (resettingFrom s)).toRun (runAfterWork false s.engine.run) :=
  workEnded_eq _

/-! The interruption changes the bus and run state and leaves the other blocks; no work is on the bus after it. -/

theorem interrupted_cfg (s : State) : s.interrupted.cfg = s.cfg := workEnded_cfg _
theorem interrupted_rq (s : State) : s.interrupted.rq = s.rq := workEnded_rq _
theorem interrupted_profiles (s : State) : s.interrupted.profiles = s.profiles := workEnded_profiles _
theorem interrupted_attn (s : State) : s.interrupted.attn = s.attn := workEnded_attn _
theorem interrupted_fault (s : State) : s.interrupted.fault = s.fault := workEnded_fault _
theorem interrupted_free (s : State) : s.interrupted.free = s.free := workEnded_free _

theorem interrupted_run (s : State) : s.interrupted.engine.run = runAfterWork false s.engine.run := by
  rw [interrupted_eq]
  rfl

theorem interrupted_resetting (s : State) : s.interrupted.resetting = true := by
  rw [interrupted_eq]
  rfl

theorem interrupted_busy (s : State) : s.interrupted.busy = false := by
  rw [interrupted_eq]
  rfl

theorem resetTriggers_congr {s t : State} (hcfg : t.cfg = s.cfg) (hch : t.channels = s.channels) :
    t.resetTriggers = s.resetTriggers := by
  unfold State.resetTriggers
  rw [hcfg, hch]

/-- What a halting failure has triggered, the channels do not trigger again. -/
theorem haltOnError_or_resetTriggers (s : State) : (s.cfg.haltOnError || s.resetTriggers) = s.cfg.haltOnError := by
  unfold State.resetTriggers
  cases s.cfg.haltOnError <;> simp

/-- BUS_RESET with work on the bus (R103, R104): where the owner's part leads to `v` in the new interval, the command leads to `v`
with the effects of every other owner, and result OK. -/
theorem exec_busReset_of_work {s v : State} {w : BusWork} {b : Bool} (hi : s.inInit = false) (hb : s.engine.bus = .cycle w)
    (howner : ownerMeetsReset w s.interrupted = (v.setBus (resettingFrom s)).toRun (runAfterWork b s.engine.run))
    (hrun : v.engine.run = s.engine.run) (htrig : v.resetTriggers = s.resetTriggers) :
    exec .busReset s = .next
      (((v.busReset (pins s).sdir).toRun (runAfterWork (b || s.resetTriggers) s.engine.run)).answers .ok) := by
  have hr : s.resetting = false := resetting_eq_false (by simp [hb])
  have hexec : exec .busReset s = .next ((startBusReset s).setResult .ok) := by
    change Host.Outcome.next (windowCommand busResetCommand s) = _
    rw [windowCommand_performed _ hi, busResetCommand, hr]
    rfl
  have hstart : startBusReset s =
      clearAttention (channelsMeetReset (requestsMeetReset (ownerMeetsReset w s.interrupted))) := by
    simp only [startBusReset, hb, State.interrupted]
  have hall : startBusReset s = ((v.busReset (pins s).sdir).toRun (runAfterWork b s.engine.run)).toRun
      (runAfterTrigger v.resetTriggers false (runAfterWork b s.engine.run)) := by
    rw [hstart, howner, owners_meet_reset (f := (pins s).sdir) rfl]
    rfl
  rw [htrig, runAfterTrigger_runAfterWork, toRun_toRun (fun h => ?_) (fun h => ?_)] at hall
  · rw [hexec, hall]
    rfl
  · have hv : s.engine.run = .halted := hrun.symm.trans h
    rw [hv, runAfterWork_halted]
  · rw [← runAfterTrigger_runAfterWork, h, runAfterTrigger_halted]

theorem outcomeAtReset_ending {c : Cycle} {o : CycleOutcome} (h : c.phase = .ending o) : outcomeAtReset c = o := by
  simp only [outcomeAtReset, h]

/-- A cycle before its END period is cut (R19). -/
theorem outcomeAtReset_cut {c : Cycle} (h : c.phase.isEnding = false) : outcomeAtReset c = .cut := by
  unfold outcomeAtReset
  split
  · next hx =>
    rw [hx] at h
    cases h
  all_goals rfl

/-! ### A request's cycle (R19, R52, R54) -/

/-- Retiring does not look at the bus or the run state. -/
theorem retired_interrupted (s : State) (r : Request) (st : Status) (d : Word) : s.interrupted.retired r st d =
    ((s.retired r st d).setBus (resettingFrom s)).toRun (runAfterWork false s.engine.run) := by
  rw [interrupted_eq]
  unfold State.retired
  split <;> rfl

/-- A request that leaves its queue as its work is cut short halts the engine where its failure is a trigger. -/
theorem retire_interrupted (s : State) (r : Request) (st : Status) (d : Word) : retire r st d s.interrupted =
    ((s.retired r st d).setBus (resettingFrom s)).toRun (runAfterWork (s.cfg.haltOnError && st != .ok) s.engine.run) := by
  rw [retire_eq, retired_interrupted, interrupted_busy, interrupted_run, interrupted_cfg, runAfterTrigger_runAfterWork,
    Bool.false_or, toRun_toRun]
  · intro h
    have hv : s.engine.run = .halted := by
      rw [← retired_engine s r st d]
      exact h
    rw [hv, runAfterWork_halted]
  · intro h
    rw [← Bool.false_or (s.cfg.haltOnError && st != .ok), ← runAfterTrigger_runAfterWork, h, runAfterTrigger_halted]

theorem retired_resetTriggers (s : State) (r : Request) (st : Status) (d : Word) :
    (s.retired r st d).resetTriggers = s.resetTriggers :=
  resetTriggers_congr (retired_cfg s r st d) (retired_channels s r st d)

theorem retired_run (s : State) (r : Request) (st : Status) (d : Word) : (s.retired r st d).engine.run = s.engine.run := by
  rw [retired_engine]

section
variable {s : State} {w : BusWork} {c : Cycle} {t : Tag} {r : Request}

/-- The queue's cycle ends with an outcome that retires its record. -/
theorem busReset_retires {o : CycleOutcome} {st : Status} {d : Word} (hi : s.inInit = false) (hb : s.engine.bus = .cycle w)
    (hw : w.owner = .queue t) (hc : w.cycle = some c) (hf : s.rq.records.find? (fun x => x.tag = t) = some r)
    (ho : outcomeAtReset c = o) (hret : o.retires = some (st, d)) :
    exec .busReset s = .next
      ((((({ s with fault := o.faultRecord w.station s.fault } : State).retired r st d).busReset (pins s).sdir).toRun
        (runAfterWork (s.cfg.haltOnError && st != .ok || s.resetTriggers) s.engine.run)).answers .ok) := by
  rw [← interrupted_rq] at hf
  have howner : ownerMeetsReset w s.interrupted =
      ((({ s with fault := o.faultRecord w.station s.fault } : State).retired r st d).setBus (resettingFrom s)).toRun
        (runAfterWork (s.cfg.haltOnError && st != .ok) s.engine.run) := by
    simp only [ownerMeetsReset, hw, hc, ho]
    rw [requestOutcome_retires hf hret, retire_interrupted, writeCycleFault_eq]
    unfold State.retired
    split <;> rfl
  exact exec_busReset_of_work hi hb howner (retired_run _ _ _ _) (retired_resetTriggers _ _ _ _)

/-- A decided DEFER at the limit retires DEFER_LIMIT (R52). -/
theorem busReset_defer_limit {n : Station} (hi : s.inInit = false) (hb : s.engine.bus = .cycle w)
    (hw : w.owner = .queue t) (hc : w.cycle = some c) (hf : s.rq.records.find? (fun x => x.tag = t) = some r)
    (ho : outcomeAtReset c = .defer) (hn : r.body.station = some n)
    (hl : (s.profiles[n]).deferLimit.toNat ≤ r.defers + 1) :
    exec .busReset s = .next
      ((((s.retired { r with defers := r.defers + 1 } .deferLimit 0).busReset (pins s).sdir).toRun
        (runAfterWork s.cfg.haltOnError s.engine.run)).answers .ok) := by
  rw [← interrupted_rq] at hf
  rw [← interrupted_profiles] at hl
  have htrigger : (s.cfg.haltOnError && Status.deferLimit != .ok) = s.cfg.haltOnError := Bool.and_true _
  have howner : ownerMeetsReset w s.interrupted =
      ((s.retired { r with defers := r.defers + 1 } .deferLimit 0).setBus (resettingFrom s)).toRun
        (runAfterWork s.cfg.haltOnError s.engine.run) := by
    simp only [ownerMeetsReset, hw, hc, ho]
    rw [requestOutcome_defer hf hn, deferRequest, if_pos hl, retire_interrupted, htrigger]
    rfl
  rw [exec_busReset_of_work hi hb howner (retired_run _ _ _ _) (retired_resetTriggers _ _ _ _), haltOnError_or_resetTriggers]

/-- A decided DEFER below the limit is counted and waits: no backoff timer runs in an interval (R52, R60). -/
theorem busReset_defer_waits {n : Station} (hi : s.inInit = false) (hb : s.engine.bus = .cycle w)
    (hw : w.owner = .queue t) (hc : w.cycle = some c) (hf : s.rq.records.find? (fun x => x.tag = t) = some r)
    (ho : outcomeAtReset c = .defer) (hn : r.body.station = some n)
    (hl : r.defers + 1 < (s.profiles[n]).deferLimit.toNat) :
    exec .busReset s = .next
      (((({ s with
        rq := { s.rq with
          records := s.rq.records.map fun x =>
            if x.tag = t then { r with defers := r.defers + 1, state := .waiting } else x } } : State).busReset
              (pins s).sdir).toRun (runAfterWork s.resetTriggers s.engine.run)).answers .ok) := by
  have htag : r.tag = t := by simpa using List.find?_some hf
  rw [← interrupted_rq] at hf
  rw [← interrupted_profiles] at hl
  have howner : ownerMeetsReset w s.interrupted =
      (({ s with
        rq := { s.rq with
          records := s.rq.records.map fun x =>
            if x.tag = t then { r with defers := r.defers + 1, state := .waiting } else x } } : State).setBus
              (resettingFrom s)).toRun (runAfterWork false s.engine.run) := by
    simp only [ownerMeetsReset, hw, hc, ho]
    rw [requestOutcome_defer hf hn, deferRequest, if_neg (Nat.not_le.mpr hl), interrupted_resetting, interrupted_eq, ← htag]
    rfl
  exact exec_busReset_of_work hi hb howner rfl rfl

end

/-! ### An IDENTIFY (R160) -/

/-- A bus reset clears of the Attention Controller what an answer had moved. -/
theorem busReset_attention (s : State) {a : Attention} (ha : a.atReset = s.attn.atReset) (g : Bool) :
    ({ s with attn := a } : State).busReset g = s.busReset g := by
  unfold State.busReset
  rw [ha]

theorem countEmptyAnswer_atReset (a : Word) (s : State) : (countEmptyAnswer a s).attn.atReset = s.attn.atReset := by
  unfold countEmptyAnswer
  split
  · split
    · rfl
    · split
      · rw [writeFault_eq]
        rfl
      · rfl
  · rfl

/-- The fourth empty answer in a row writes ATN_STUCK, any other answer no fault (R161). -/
theorem countEmptyAnswer_fault (a : Word) (s : State) : (countEmptyAnswer a s).fault = s.fault ∨
    (s.attn.satn = true ∧ 3 ≤ s.attn.emptyAnswers ∧ enabledBitSet s a = false ∧
      (countEmptyAnswer a s).fault = faultAfter s.fault .atnStuck none) := by
  unfold countEmptyAnswer
  split
  · next hs =>
    split
    · exact .inl rfl
    · next he =>
      split
      · next hn =>
        rw [writeFault_eq]
        exact .inr ⟨hs, by omega, by simpa using he, rfl⟩
      · exact .inl rfl
  · exact .inl rfl

/-- An answer counted moves the Attention Controller and may write a fault, nothing else. -/
theorem countEmptyAnswer_frame (a : Word) (s : State) : countEmptyAnswer a s =
    { s with attn := (countEmptyAnswer a s).attn, fault := (countEmptyAnswer a s).fault } := by
  unfold countEmptyAnswer
  split
  · split
    · rfl
    · split
      · rw [writeFault_eq]
      · rfl
  · rfl

/-- An answer taken moves no more than one counted (R154). -/
theorem takeAnswer_frame (a : Word) (s : State) : takeAnswer a s =
    { s with attn := (takeAnswer a s).attn, fault := (takeAnswer a s).fault } :=
  countEmptyAnswer_frame a _

theorem takeAnswer_atReset (a : Word) (s : State) : (takeAnswer a s).attn.atReset = s.attn.atReset :=
  countEmptyAnswer_atReset a _

theorem takeAnswer_fault (a : Word) (s : State) : (takeAnswer a s).fault = s.fault ∨
    (s.attn.satn = true ∧ 3 ≤ s.attn.emptyAnswers ∧ enabledBitSet s a = false ∧
      (takeAnswer a s).fault = faultAfter s.fault .atnStuck none) :=
  countEmptyAnswer_fault a _

theorem enabledBitSet_eq_false {s : State} {a : Word} (h : enabledBitSet s a = false) (n : Station)
    (hn : (s.profiles[n]).enabled = true) : a.getLsbD n.number = false := by
  have hany := List.any_eq_false.mp h n (List.mem_finRange n)
  simpa only [hn, Bool.true_and, Bool.not_eq_true] using hany

section
variable {s : State} {w : BusWork} {c : Cycle}

/-- The reset with an IDENTIFY in flight leaves of the controller's part a fault and a free value taken, at most. -/
theorem busReset_identify {a : Attention} {f : Option FaultEntry} {free : Nat} (hi : s.inInit = false)
    (hb : s.engine.bus = .cycle w) (hw : w.owner = .attention) (hc : w.cycle = some c)
    (ha : a.atReset = s.attn.atReset)
    (hmeets : identifyMeetsReset (outcomeAtReset c) s.interrupted = { s.interrupted with attn := a, fault := f, free := free }) :
    exec .busReset s = .next
      (((({ s with fault := f, free := free } : State).busReset (pins s).sdir).toRun
        (runAfterWork s.resetTriggers s.engine.run)).answers .ok) := by
  have howner : ownerMeetsReset w s.interrupted =
      (({ s with attn := a, fault := f, free := free } : State).setBus (resettingFrom s)).toRun
        (runAfterWork false s.engine.run) := by
    simp only [ownerMeetsReset, hw, hc]
    rw [hmeets, interrupted_eq]
    rfl
  rw [exec_busReset_of_work hi hb howner rfl rfl, Bool.false_or]
  exact congrArg (fun u : State => Host.Outcome.next ((u.toRun (runAfterWork s.resetTriggers s.engine.run)).answers .ok))
    (busReset_attention { s with fault := f, free := free } ha _)

/-- An ANSWER decided in END: discarded, or taken with no more than its ATN_STUCK fault left of it (assumption 10). -/
theorem busReset_answer {a : Word} (hi : s.inInit = false) (hb : s.engine.bus = .cycle w) (hw : w.owner = .attention)
    (hc : w.cycle = some c) (ho : outcomeAtReset c = .answer a) :
    exec .busReset s = .next
      (((({ s with free := s.free + 1 } : State).busReset (pins s).sdir).toRun
        (runAfterWork s.resetTriggers s.engine.run)).answers .ok) ∨
    (s.attn.satn = true ∧ 3 ≤ s.attn.emptyAnswers ∧
      (∀ n : Station, (s.profiles[n]).enabled = true → a.getLsbD n.number = false) ∧
      exec .busReset s = .next
        (((({ s with fault := faultAfter s.fault .atnStuck none, free := s.free + 1 } : State).busReset (pins s).sdir).toRun
          (runAfterWork s.resetTriggers s.engine.run)).answers .ok)) := by
  have hfault := interrupted_fault s
  have hfree := interrupted_free s
  by_cases hfirst : Config.answerBeforeReset s.interrupted.free = true
  · have hmeets : identifyMeetsReset (outcomeAtReset c) s.interrupted =
        { s.interrupted with
          attn := (takeAnswer a s.interrupted).attn
          fault := (takeAnswer a s.interrupted).fault
          free := s.free + 1 } := by
      rw [ho, identifyMeetsReset, if_pos hfirst, takeAnswer_frame, ← hfree]
      rfl
    have ha : (takeAnswer a s.interrupted).attn.atReset = s.attn.atReset := by
      rw [takeAnswer_atReset, interrupted_attn]
    have hexec := busReset_identify hi hb hw hc ha hmeets
    obtain hnone | ⟨hsatn, hempty, hbit, hstuck⟩ := takeAnswer_fault a s.interrupted
    · rw [hnone, hfault] at hexec
      exact .inl hexec
    · rw [hstuck, hfault] at hexec
      rw [interrupted_attn] at hsatn hempty
      refine .inr ⟨hsatn, hempty, fun n hn => enabledBitSet_eq_false hbit n ?_, hexec⟩
      rw [interrupted_profiles]
      exact hn
  · refine .inl (busReset_identify (a := s.attn) (f := s.fault) hi hb hw hc rfl ?_)
    rw [ho, identifyMeetsReset, if_neg hfirst, ← interrupted_attn, ← hfault, ← hfree]
    rfl

end

/-! ### The statement -/

/-- Settles O42: a request by the outcome it has at the reset, an IDENTIFY by its phase. -/
theorem busResetEndsCycles : Obligations.BusResetEndsCycles := by
  refine ⟨fun s w c t r hi hb hw hc hf => ⟨fun he => ?_, fun o st data hx hret => ?_, fun n hx hn => ⟨fun hl => ?_, fun hl => ?_⟩⟩,
    fun s w c hi hb hw hc => ⟨fun he => ?_, fun hx => ?_, fun a hx => ?_⟩⟩
  · have htrigger : (s.cfg.haltOnError && Status.busReset != .ok || s.resetTriggers) = s.cfg.haltOnError :=
      (congrArg (· || s.resetTriggers) (Bool.and_true _)).trans (haltOnError_or_resetTriggers s)
    have hexec := busReset_retires hi hb hw hc hf (outcomeAtReset_cut he) rfl
    rw [htrigger] at hexec
    exact hexec
  · exact busReset_retires hi hb hw hc hf (outcomeAtReset_ending hx) hret
  · exact busReset_defer_limit hi hb hw hc hf (outcomeAtReset_ending hx) hn hl
  · have hexec := busReset_defer_waits hi hb hw hc hf (outcomeAtReset_ending hx) hn hl
    exact hexec
  · refine busReset_identify (a := s.attn) hi hb hw hc rfl ?_
    rw [outcomeAtReset_cut he, ← interrupted_attn, ← interrupted_fault, ← interrupted_free]
    rfl
  · refine busReset_identify (a := (startIntervalTimer s).attn) hi hb hw hc rfl ?_
    rw [outcomeAtReset_ending hx, identifyMeetsReset, takeIdentifyParity, writeFault_eq, interrupted_eq]
    rfl
  · exact busReset_answer hi hb hw hc (outcomeAtReset_ending hx)

end Sys2Proof.Machine
end

section
/-! PROOFS. The plain locations of the window (R191, R193, R202; Tables 6 and 10 of spec/11): what a write of one stores, and
what the plain locations read after it. -/

namespace Sys2Proof.Machine

/-! ### The layouts: a stored word reads back with the bits without a field 0 (R202)

Each is compared bit by bit: a bit of a field is the written word's, a bit between two fields is 0. -/

theorem ctrlWord_writeCtrl (x : Submission) (w : Word) : (x.writeCtrl w).ctrlWord = w &&& 0x873F#16 := by
  refine BitVec.eq_of_getLsbD_eq fun i hi => ?_
  simp only [Submission.ctrlWord, Submission.writeCtrl, BitVec.getLsbD_append]
  interval_cases i <;> simp

theorem addrWord_writeAddr (x : Submission) (w : Word) : (x.writeAddr w).addrWord = w &&& 0x1FFF#16 := by
  refine BitVec.eq_of_getLsbD_eq fun i hi => ?_
  simp only [Submission.addrWord, Submission.writeAddr, BitVec.getLsbD_append]
  interval_cases i <;> simp

theorem wordA_writeA (p : Profile) (w : Word) : (p.writeA w).wordA = w &&& 0xC1FF#16 := by
  refine BitVec.eq_of_getLsbD_eq fun i hi => ?_
  simp only [Profile.wordA, Profile.writeA, BitVec.getLsbD_append]
  interval_cases i <;> simp

theorem wordB_writeB (p : Profile) (w : Word) : (p.writeB w).wordB = w &&& 0xFFFF#16 := by
  refine BitVec.eq_of_getLsbD_eq fun i hi => ?_
  simp only [Profile.wordB, Profile.writeB, BitVec.getLsbD_append]
  interval_cases i <;> simp

theorem wordC_writeC (p : Profile) (w : Word) : (p.writeC w).wordC = w &&& 0xFFFF#16 := by
  refine BitVec.eq_of_getLsbD_eq fun i hi => ?_
  simp only [Profile.wordC, Profile.writeC, BitVec.getLsbD_append]
  interval_cases i <;> simp

theorem Sense.bit_ofBit (b : Bool) : (Sense.ofBit b).bit = b := by cases b <;> rfl

theorem sourceWord_ofWord (w : Word) : (SourceStaging.ofWord w).word = w &&& 0x0787#16 := by
  refine BitVec.eq_of_getLsbD_eq fun i hi => ?_
  simp only [SourceStaging.word, SourceStaging.ofWord, Sense.bit_ofBit, BitVec.getLsbD_append]
  interval_cases i <;> simp

/-- MPTR: bits 11-0. -/
theorem pointerWord_eq_and (w : Word) : 0#4 ++ w.extractLsb' 0 12 = w &&& 0x0FFF#16 := by
  refine BitVec.eq_of_getLsbD_eq fun i hi => ?_
  simp only [BitVec.getLsbD_append]
  interval_cases i <;> simp

/-- PROF_SEL and SRC_SEL: bits 4-0. -/
theorem selectionWord_eq_and (w : Word) : 0#11 ++ w.extractLsb' 0 5 = w &&& 0x001F#16 := by
  refine BitVec.eq_of_getLsbD_eq fun i hi => ?_
  simp only [BitVec.getLsbD_append]
  interval_cases i <;> simp

/-- CH_SEL: bits 1-0. -/
theorem channelWord_eq_and (w : Word) : BitVec.ofNat 16 (w.extractLsb' 0 2).toFin.val = w &&& 0x0003#16 := by
  refine BitVec.eq_of_getLsbD_eq fun i hi => ?_
  simp only [BitVec.val_toFin, BitVec.ofNat_toNat, BitVec.getLsbD_setWidth]
  interval_cases i <;> simp

/-! ### Each location by its fields: what it reads and what a write of it stores (R191) -/

@[simp] theorem locationWord_result (s : State) : locationWord s 0x02#5 = 0#12 ++ s.port.result.code := rfl
@[simp] theorem locationWord_arg0 (s : State) : locationWord s 0x03#5 = s.port.arg0 := rfl
@[simp] theorem locationWord_arg1 (s : State) : locationWord s 0x04#5 = s.port.arg1 := rfl
@[simp] theorem locationWord_arg2 (s : State) : locationWord s 0x05#5 = s.port.arg2 := rfl
@[simp] theorem locationWord_subCtrl (s : State) : locationWord s 0x06#5 = s.port.sub.ctrlWord := rfl
@[simp] theorem locationWord_subAddr (s : State) : locationWord s 0x07#5 = s.port.sub.addrWord := rfl
@[simp] theorem locationWord_subData (s : State) : locationWord s 0x08#5 = s.port.sub.data := rfl
@[simp] theorem locationWord_mptr (s : State) : locationWord s 0x0C#5 = 0#4 ++ s.xmem.mptr := rfl
@[simp] theorem locationWord_profSel (s : State) : locationWord s 0x0E#5 = 0#11 ++ s.port.profSel := rfl
@[simp] theorem locationWord_profA (s : State) : locationWord s 0x0F#5 = s.port.prof.wordA := rfl
@[simp] theorem locationWord_profB (s : State) : locationWord s 0x10#5 = s.port.prof.wordB := rfl
@[simp] theorem locationWord_profC (s : State) : locationWord s 0x11#5 = s.port.prof.wordC := rfl
@[simp] theorem locationWord_srcSel (s : State) : locationWord s 0x12#5 = 0#11 ++ s.port.srcSel := rfl
@[simp] theorem locationWord_srcCfg (s : State) : locationWord s 0x13#5 = s.port.src.word := rfl
@[simp] theorem locationWord_chSel (s : State) : locationWord s 0x18#5 = BitVec.ofNat 16 s.port.chSel.val := rfl

@[simp] theorem storeLocation_arg0 (w : Word) (s : State) : storeLocation 0x03#5 w s =
    { s with port := { s.port with arg0 := w } } := rfl
@[simp] theorem storeLocation_arg1 (w : Word) (s : State) : storeLocation 0x04#5 w s =
    { s with port := { s.port with arg1 := w } } := rfl
@[simp] theorem storeLocation_arg2 (w : Word) (s : State) : storeLocation 0x05#5 w s =
    { s with port := { s.port with arg2 := w } } := rfl
@[simp] theorem storeLocation_subCtrl (w : Word) (s : State) : storeLocation 0x06#5 w s =
    { s with port := { s.port with sub := s.port.sub.writeCtrl w } } := rfl
@[simp] theorem storeLocation_subAddr (w : Word) (s : State) : storeLocation 0x07#5 w s =
    { s with port := { s.port with sub := s.port.sub.writeAddr w } } := rfl
@[simp] theorem storeLocation_subData (w : Word) (s : State) : storeLocation 0x08#5 w s =
    { s with port := { s.port with sub := { s.port.sub with data := w } } } := rfl
@[simp] theorem storeLocation_mptr (w : Word) (s : State) : storeLocation 0x0C#5 w s =
    { s with xmem := { s.xmem with mptr := w.extractLsb' 0 12 } } := rfl
@[simp] theorem storeLocation_profSel (w : Word) (s : State) : storeLocation 0x0E#5 w s =
    { s with port := { s.port with profSel := w.extractLsb' 0 5 } } := rfl
@[simp] theorem storeLocation_profA (w : Word) (s : State) : storeLocation 0x0F#5 w s =
    { s with port := { s.port with prof := s.port.prof.writeA w } } := rfl
@[simp] theorem storeLocation_profB (w : Word) (s : State) : storeLocation 0x10#5 w s =
    { s with port := { s.port with prof := s.port.prof.writeB w } } := rfl
@[simp] theorem storeLocation_profC (w : Word) (s : State) : storeLocation 0x11#5 w s =
    { s with port := { s.port with prof := s.port.prof.writeC w } } := rfl
@[simp] theorem storeLocation_srcSel (w : Word) (s : State) : storeLocation 0x12#5 w s =
    { s with port := { s.port with srcSel := w.extractLsb' 0 5 } } := rfl
@[simp] theorem storeLocation_srcCfg (w : Word) (s : State) : storeLocation 0x13#5 w s =
    { s with port := { s.port with src := SourceStaging.ofWord w } } := rfl
@[simp] theorem storeLocation_chSel (w : Word) (s : State) : storeLocation 0x18#5 w s =
    { s with port := { s.port with chSel := (w.extractLsb' 0 2).toFin } } := rfl

/-! The words of one staging record share no field. -/

@[simp] theorem addrWord_writeCtrl (x : Submission) (w : Word) : (x.writeCtrl w).addrWord = x.addrWord := rfl
@[simp] theorem data_writeCtrl (x : Submission) (w : Word) : (x.writeCtrl w).data = x.data := rfl
@[simp] theorem ctrlWord_writeAddr (x : Submission) (w : Word) : (x.writeAddr w).ctrlWord = x.ctrlWord := rfl
@[simp] theorem data_writeAddr (x : Submission) (w : Word) : (x.writeAddr w).data = x.data := rfl
@[simp] theorem ctrlWord_withData (x : Submission) (w : Word) : ({ x with data := w } : Submission).ctrlWord = x.ctrlWord := rfl
@[simp] theorem addrWord_withData (x : Submission) (w : Word) : ({ x with data := w } : Submission).addrWord = x.addrWord := rfl
@[simp] theorem wordB_writeA (p : Profile) (w : Word) : (p.writeA w).wordB = p.wordB := rfl
@[simp] theorem wordC_writeA (p : Profile) (w : Word) : (p.writeA w).wordC = p.wordC := rfl
@[simp] theorem wordA_writeB (p : Profile) (w : Word) : (p.writeB w).wordA = p.wordA := rfl
@[simp] theorem wordC_writeB (p : Profile) (w : Word) : (p.writeB w).wordC = p.wordC := rfl
@[simp] theorem wordA_writeC (p : Profile) (w : Word) : (p.writeC w).wordA = p.wordA := rfl
@[simp] theorem wordB_writeC (p : Profile) (w : Word) : (p.writeC w).wordB = p.wordB := rfl

/-! ### A write of a plain location -/

/-- The plain locations, each with the bits that hold its fields (Tables 6 and 10 of spec/11). -/
def plainLocations : List (BitVec 5 × Word) :=
  [(0x03#5, 0xFFFF#16), (0x04#5, 0xFFFF#16), (0x05#5, 0xFFFF#16), (0x06#5, 0x873F#16), (0x07#5, 0x1FFF#16),
    (0x08#5, 0xFFFF#16), (0x0C#5, 0x0FFF#16), (0x0E#5, 0x001F#16), (0x0F#5, 0xC1FF#16), (0x10#5, 0xFFFF#16),
    (0x11#5, 0xFFFF#16), (0x12#5, 0x001F#16), (0x13#5, 0x0787#16), (0x18#5, 0x0003#16)]

theorem toNat_ne_of_notAction {location action : BitVec 5} (h : isActionLocation location = false)
    (ha : isActionLocation action = true) : location.toNat ≠ action.toNat := by
  intro heq
  rw [BitVec.eq_of_toNat_eq heq, ha] at h
  cases h

/-- A location without a row of its own is written as its fields are stored (R191). -/
theorem writeLocation_plain {location : BitVec 5} (h : isActionLocation location = false) (w : Word) (s : State) :
    writeLocation location w s = unlessInit (storeLocation location w) s := by
  unfold writeLocation
  split
  · next hcmd => exact absurd hcmd (toNat_ne_of_notAction (action := 0x02#5) h rfl)
  · next hmdata => exact absurd hmdata (toNat_ne_of_notAction (action := 0x0D#5) h rfl)
  · next hconfig => exact absurd hconfig (toNat_ne_of_notAction (action := 0x1C#5) h rfl)
  · next hattn => exact absurd hattn (toNat_ne_of_notAction (action := 0x1D#5) h rfl)
  · rfl

theorem exec_windowWrite_plain {location : BitVec 5} (h : isActionLocation location = false) (w : Word) {s : State}
    (hi : s.inInit = false) : exec (.windowWrite location w) s = .next (storeLocation location w s) :=
  congrArg Host.Outcome.next ((writeLocation_plain h w s).trans (unlessInit_performed _ hi))

theorem plainLocations_not_action : ∀ p ∈ plainLocations, isActionLocation p.1 = false := by
  simp [plainLocations, isActionLocation]

/-- A stored write moves the Window Port and the window pointer and no other part of the state. -/
theorem storeLocation_frame (location : BitVec 5) (w : Word) (s : State) :
    storeLocation location w s =
      { s with
        port := (storeLocation location w s).port
        xmem := { s.xmem with mptr := (storeLocation location w s).xmem.mptr } } := by
  unfold storeLocation
  split <;> rfl

theorem storeLocation_inInit (location : BitVec 5) (w : Word) (s : State) :
    (storeLocation location w s).inInit = s.inInit := by
  rw [storeLocation_frame]
  rfl

/-! ### What the plain locations read after it -/

theorem windowRead_running {s : State} (h : s.inInit = false) (location : BitVec 5) :
    windowRead s location = locationWord s location := by
  rw [windowRead, h]
  rfl

/-- A written location reads back what its fields hold of the word. -/
theorem locationWord_storeLocation_self (w : Word) (s : State) :
    ∀ p ∈ plainLocations, locationWord (storeLocation p.1 w s) p.1 = w &&& p.2 := by
  have whole : w = w &&& 0xFFFF#16 := (BitVec.and_allOnes (x := w)).symm
  simp only [plainLocations, List.forall_mem_cons, List.not_mem_nil, false_imp_iff, implies_true, and_true]
  exact ⟨whole, whole, whole, ctrlWord_writeCtrl _ w, addrWord_writeAddr _ w, whole, pointerWord_eq_and w,
    selectionWord_eq_and w, wordA_writeA _ w, wordB_writeB _ w, wordC_writeC _ w, selectionWord_eq_and w,
    sourceWord_ofWord w, channelWord_eq_and w⟩

/-- RESULT and the plain locations: what the window shows of the fields a plain write can store into. -/
def storedLocations : List (BitVec 5) :=
  [0x02#5, 0x03#5, 0x04#5, 0x05#5, 0x06#5, 0x07#5, 0x08#5, 0x0C#5, 0x0E#5, 0x0F#5, 0x10#5, 0x11#5, 0x12#5, 0x13#5, 0x18#5]

/-- No two plain locations share a field: a write of one leaves what RESULT and the others read, pair by pair from what each
location stores and reads. -/
theorem locationWord_storeLocation_other (w : Word) (s : State) :
    ∀ p ∈ plainLocations, ∀ other ∈ storedLocations, other = p.1 ∨
      locationWord (storeLocation p.1 w s) other = locationWord s other := by
  simp [plainLocations, storedLocations]

/-! ### The statement -/

/-- Settles O11: the read back and the frame hold of every plain location, and each write's fields are `storeLocation`'s. -/
theorem plainLocationsStore : Obligations.PlainLocationsStore := by
  refine ⟨fun s location mask w hi hp => ?_, fun s w hi => ?_⟩
  · have hread (l : BitVec 5) : windowRead (storeLocation location w s) l = locationWord (storeLocation location w s) l :=
      windowRead_running ((storeLocation_inInit location w s).trans hi) l
    refine ⟨storeLocation location w s, exec_windowWrite_plain (plainLocations_not_action _ hp) w hi, ?_, fun other hne ho => ?_,
      storeLocation_frame location w s⟩
    · rw [hread]
      exact locationWord_storeLocation_self w s _ hp
    · rw [hread, windowRead_running hi]
      exact (locationWord_storeLocation_other w s _ hp other ho).resolve_left hne
  · have hstore (location : BitVec 5) (h : isActionLocation location = false) := exec_windowWrite_plain h w hi
    refine ⟨hstore 0x03#5 rfl, hstore 0x04#5 rfl, hstore 0x05#5 rfl, hstore 0x06#5 rfl, hstore 0x07#5 rfl, hstore 0x08#5 rfl,
      hstore 0x0E#5 rfl, hstore 0x0F#5 rfl, hstore 0x10#5 rfl, hstore 0x11#5 rfl, hstore 0x12#5 rfl, hstore 0x13#5 rfl,
      fun c hc => ?_, hstore 0x0C#5 rfl⟩
    obtain rfl : (w.extractLsb' 0 2).toFin = c := Fin.ext hc
    exact hstore 0x18#5 rfl

end Sys2Proof.Machine
end

section
/-! PROOFS. Station profiles and the staging words: PROF_APPLY, PROF_LOAD and SRC_LOAD (R25, R26, R32, R172). -/

namespace Sys2Proof.Machine

/-! ### The station or source a selection index names -/

theorem ofNumber_stationNumber (n : Station) : Station.ofNumber n.number = some n := by
  have hn : 1 ≤ n.number ∧ n.number ≤ 15 := by unfold Station.number; omega
  exact dif_pos hn

theorem ofNumber_sourceNumber (x : Source) : Source.ofNumber x.number = some x := by
  have hx : 1 ≤ x.number ∧ x.number ≤ 19 := by unfold Source.number; omega
  exact dif_pos hx

/-- PROF_SEL names no station at 0 and above 15 (R25). -/
theorem ofNumber_noStation {b : BitVec 5} (h : b = 0#5 ∨ 15 < b.toNat) : Station.ofNumber b.toNat = none := by
  have hb : ¬ (1 ≤ b.toNat ∧ b.toNat ≤ 15) := by
    obtain rfl | h := h
    · decide
    · omega
  exact dif_neg hb

/-- SRC_SEL names no source at 0 and above 19 (R170). -/
theorem ofNumber_noSource {b : BitVec 5} (h : b = 0#5 ∨ 19 < b.toNat) : Source.ofNumber b.toNat = none := by
  have hb : ¬ (1 ≤ b.toNat ∧ b.toNat ≤ 19) := by
    obtain rfl | h := h
    · decide
    · omega
  exact dif_neg hb

/-! ### A command row in and outside INIT (R194) -/

/-- A command row outside INIT is its command's body (R194). -/
theorem exec_command_performed {c : Instr} {w : Word} (h : encodeCommand c = some w) {s : State} (hi : s.inInit = false) :
    exec c s = .next (performCommand c s) :=
  (exec_command h s).trans (congrArg _ (windowCommand_performed _ hi))

/-- A command row in INIT answers INIT (R194). -/
theorem exec_command_init {c : Instr} {w : Word} (h : encodeCommand c = some w) {s : State} (hi : s.inInit = true) :
    exec c s = .next (s.answers .init) :=
  (exec_command h s).trans (congrArg _ (windowCommand_init _ hi))

/-! ### The commands case by case -/

theorem legal_iff_inRanges (p : Profile) : p.legal = true ↔ p.inRanges := by
  simp [Profile.legal, Profile.inRanges, and_assoc]

theorem applyProfile_noStation {s : State} (h : Station.ofNumber s.port.profSel.toNat = none) :
    applyProfile s = s.answers .badField := by
  simp only [applyProfile, h]
  rfl

theorem applyProfile_illegal {s : State} (h : ¬ s.port.prof.inRanges) : applyProfile s = s.answers .badField := by
  have hlegal : ¬ s.port.prof.legal = true := mt (legal_iff_inRanges _).mp h
  unfold applyProfile
  split
  · rfl
  · exact if_neg hlegal

/-- A legal profile is copied whole; a station it disables loses its attention items (R25, R32). -/
theorem applyProfile_legal {s : State} {n : Station} (hn : s.port.profSel.toNat = n.number) (h : s.port.prof.inRanges) :
    applyProfile s =
      { s with
        profiles := s.profiles.set n s.port.prof
        attn := { s.attn with
          stations :=
            if (s.profiles[n]).enabled = true ∧ s.port.prof.enabled = false then
              s.attn.stations.set n { s.attn.stations[n] with pending := false, fresh := false, previous := false }
            else s.attn.stations }
        port := { s.port with result := .ok } } := by
  have hdisables : ((s.profiles[n]).enabled && !s.port.prof.enabled) = true ↔
      (s.profiles[n]).enabled = true ∧ s.port.prof.enabled = false := by
    rw [Bool.and_eq_true, Bool.not_eq_true']
  simp only [applyProfile, hn, ofNumber_stationNumber, (legal_iff_inRanges _).mpr h, if_true, hdisables]
  by_cases hd : (s.profiles[n]).enabled = true ∧ s.port.prof.enabled = false
  · rw [if_pos hd, if_pos hd]
    rfl
  · rw [if_neg hd, if_neg hd]
    rfl

theorem loadProfile_noStation {s : State} (h : Station.ofNumber s.port.profSel.toNat = none) :
    loadProfile s = s.answers .badField := by
  simp only [loadProfile, h]
  rfl

theorem loadProfile_station {s : State} {n : Station} (hn : s.port.profSel.toNat = n.number) :
    loadProfile s = { s with port := { s.port with prof := s.profiles[n], result := .ok } } := by
  simp only [loadProfile, hn, ofNumber_stationNumber]
  rfl

theorem loadSource_noSource {s : State} (h : Source.ofNumber s.port.srcSel.toNat = none) :
    loadSource s = s.answers .badField := by
  simp only [loadSource, h]
  rfl

theorem loadSource_source {s : State} {x : Source} (hx : s.port.srcSel.toNat = x.number) :
    loadSource s =
      { s with
        port := { s.port with
          result := .ok
          src := {
            routing := (s.alerts.config[x]).routing.code
            sense := sourceSense s x
            priority := (s.alerts.config[x]).priority } } } := by
  simp only [loadSource, hx, ofNumber_sourceNumber]
  rfl

/-! ### The statements -/

/-- Settles O21: by the station PROF_SEL names and the ranges of the staged profile. -/
theorem profApplyCopiesOrRefuses : Obligations.ProfApplyCopiesOrRefuses := by
  intro s hi
  have hexec : exec .profApply s = .next (applyProfile s) := exec_command_performed rfl hi
  rw [hexec]
  refine ⟨fun hbad => congrArg _ ?_, fun n hn hp => congrArg _ (applyProfile_legal hn hp)⟩
  obtain h | h | h := hbad
  · exact applyProfile_noStation (ofNumber_noStation (.inl h))
  · exact applyProfile_noStation (ofNumber_noStation (.inr h))
  · exact applyProfile_illegal h

/-- Settles O22: by the station or source the selection index names. -/
theorem loadCommandsCopy : Obligations.LoadCommandsCopy := by
  refine ⟨fun s hi => ?_, fun s => ⟨exec_command_init rfl, fun hi => ?_⟩⟩
  · have hexec : exec .profLoad s = .next (loadProfile s) := exec_command_performed rfl hi
    rw [hexec]
    exact ⟨fun h => congrArg _ (loadProfile_noStation (ofNumber_noStation h)), fun n hn => congrArg _ (loadProfile_station hn)⟩
  · have hexec : exec .srcLoad s = .next (loadSource s) := exec_command_performed rfl hi
    rw [hexec]
    exact ⟨fun h => congrArg _ (loadSource_noSource (ofNumber_noSource h)), fun x hx => congrArg _ (loadSource_source hx)⟩

end Sys2Proof.Machine
end

section
/-! PROOFS. When the Engine chooses, and what the queue and the block channels offer it (R44 to R46, R86, R89, R128, R151). -/

namespace Sys2Proof.Machine

/-! ### The conditions of a choice (R86, R151) -/

theorem mayChoose_iff (s : State) : mayChoose s = true ↔ mayDispatch s := by
  simp [mayChoose, mayDispatch, and_assoc]

theorem identifyDue_iff (s : State) : identifyDue s = true ↔ dueIdentify s := by
  simp [identifyDue, dueIdentify, and_assoc]

/-! ### The oldest eligible record -/

theorem credit_pos_iff (s : State) : 0 < credit s ↔ s.cq.records.length + s.cq.reserved < 16 := by
  simp only [credit, Config.completionDepth]
  omega

theorem timerStopped_iff (s : State) (n : Station) : timerStopped s n = true ↔ s.rq.backoff[n] = none :=
  Option.isNone_iff_eq_none

theorem eligible_iff (s : State) (older : List Request) (r : Request) : eligible s older r = true ↔ mayGo s older r := by
  unfold eligible mayGo
  rw [Bool.and_eq_true, Bool.and_eq_true, decide_eq_true_iff, credit_pos_iff, beq_iff_eq, and_assoc]
  refine and_congr_right fun _ => and_congr_right fun _ => ?_
  cases r.body.station with
  | none => exact List.isEmpty_iff
  | some n =>
    rw [Bool.and_eq_true, timerStopped_iff]
    simp

/-- The first eligible record of a list behind older records, and none eligible before it. -/
theorem firstEligible_some_iff (s : State) (older l : List Request) (r : Request) : firstEligible s older l = some r ↔
    ∃ before after, l = before ++ r :: after ∧ mayGo s (older ++ before) r ∧
      ∀ (b a : List Request) (x : Request), before = b ++ x :: a → ¬ mayGo s (older ++ b) x := by
  induction l generalizing older with
  | nil => simp [firstEligible]
  | cons y l ih =>
    by_cases hy : mayGo s older y
    · rw [firstEligible, if_pos ((eligible_iff s older y).mpr hy)]
      constructor
      · rintro ⟨⟩
        exact ⟨[], l, rfl, by rwa [List.append_nil], by simp⟩
      · rintro ⟨before, after, hl, -, hnone⟩
        cases before with
        | nil => rw [List.nil_append, List.cons.injEq] at hl; rw [hl.1]
        | cons b before =>
          rw [List.cons_append, List.cons.injEq] at hl
          refine absurd ?_ (hnone [] before b rfl)
          rwa [List.append_nil, ← hl.1]
    · rw [firstEligible, if_neg (mt (eligible_iff s older y).mp hy), ih]
      constructor
      · rintro ⟨before, after, rfl, hgo, hnone⟩
        rw [List.append_assoc] at hgo
        refine ⟨y :: before, after, rfl, hgo, fun b a x hb => ?_⟩
        cases b with
        | nil =>
          rw [List.nil_append, List.cons.injEq] at hb
          rwa [List.append_nil, ← hb.1]
        | cons z b =>
          rw [List.cons_append, List.cons.injEq] at hb
          have hx := hnone b a x hb.2
          rwa [List.append_assoc, List.singleton_append, hb.1] at hx
      · rintro ⟨before, after, hl, hgo, hnone⟩
        cases before with
        | nil =>
          rw [List.nil_append, List.cons.injEq] at hl
          rw [List.append_nil, ← hl.1] at hgo
          exact absurd hgo hy
        | cons z before =>
          rw [List.cons_append, List.cons.injEq] at hl
          obtain ⟨rfl, hl⟩ := hl
          refine ⟨before, after, hl, by rwa [List.append_assoc], fun b a x hb => ?_⟩
          rw [List.append_assoc]
          exact hnone (y :: b) a x (by rw [hb]; rfl)

theorem firstEligible_none_iff (s : State) (older l : List Request) : firstEligible s older l = none ↔
    ∀ (before after : List Request) (r : Request), l = before ++ r :: after → ¬ mayGo s (older ++ before) r := by
  induction l generalizing older with
  | nil => simp [firstEligible]
  | cons y l ih =>
    by_cases hy : mayGo s older y
    · rw [firstEligible, if_pos ((eligible_iff s older y).mpr hy)]
      exact iff_of_false nofun fun hnone => hnone [] l y rfl (by rwa [List.append_nil])
    · rw [firstEligible, if_neg (mt (eligible_iff s older y).mp hy), ih]
      constructor
      · intro hnone before after r hl
        cases before with
        | nil =>
          rw [List.nil_append, List.cons.injEq] at hl
          rwa [List.append_nil, ← hl.1]
        | cons z before =>
          rw [List.cons_append, List.cons.injEq] at hl
          have hr := hnone before after r hl.2
          rwa [List.append_assoc, List.singleton_append, hl.1] at hr
      · intro hnone before after r hl
        rw [List.append_assoc]
        exact hnone (y :: before) after r (by rw [hl]; rfl)

theorem candidate_some_iff (s : State) (r : Request) : candidate s = some r ↔
    ∃ older younger, s.rq.records = older ++ r :: younger ∧ mayGo s older r ∧
      ∀ (before after : List Request) (x : Request), older = before ++ x :: after → ¬ mayGo s before x :=
  firstEligible_some_iff s [] s.rq.records r

/-! ### The first eligible channel in rotation -/

theorem channelEligible_iff (s : State) (c : Channel) : channelEligible s c = true ↔ mayMove s c := by
  unfold channelEligible mayMove
  dsimp only
  rw [Bool.and_eq_true, beq_iff_eq]
  refine and_congr_right fun _ => ?_
  cases (s.channels[c]).control with
  | none => simp
  | some k =>
    have hstopped := timerStopped_iff s k.station
    cases hp : k.paced <;> simp [hp, hstopped]

/-- Every channel is one of the four after the pointer. -/
theorem channel_eq_pointer_add (p c : Channel) : ∃ k : Fin 4, c = p + 1 + k := ⟨c - (p + 1), by abel⟩

theorem nextChannel_none_iff (s : State) : nextChannel s = none ↔ ∀ c : Channel, ¬ mayMove s c := by
  have hall (c : Channel) : c ∈ roundRobin s.engine.pointer := by
    generalize s.engine.pointer = p
    revert p c
    decide
  simp only [nextChannel, List.find?_eq_none, channelEligible_iff]
  exact ⟨fun h c => h c (hall c), fun h c _ => h c⟩

theorem nextChannel_some_iff (s : State) (c : Channel) : nextChannel s = some c ↔
    ∃ k : Fin 4, c = s.engine.pointer + 1 + k ∧ mayMove s c ∧ ∀ j : Fin 4, j < k → ¬ mayMove s (s.engine.pointer + 1 + j) := by
  have hfirst (k : Fin 4) (hk : mayMove s (s.engine.pointer + 1 + k))
      (hbefore : ∀ j : Fin 4, j < k → ¬ mayMove s (s.engine.pointer + 1 + j)) :
      nextChannel s = some (s.engine.pointer + 1 + k) :=
    roundRobin_find _ _ k ((channelEligible_iff s _).mpr hk)
      fun j hj => Bool.eq_false_iff.mpr (mt (channelEligible_iff s _).mp (hbefore j hj))
  constructor
  · intro h
    have hc : mayMove s c := (channelEligible_iff s c).mp (List.find?_some h)
    obtain ⟨k₀, hk₀⟩ := channel_eq_pointer_add s.engine.pointer c
    have hfound : mayMove s (s.engine.pointer + 1 + k₀) := (congrArg (mayMove s) hk₀).mp hc
    obtain ⟨k, hk, hmin⟩ := wellFounded_lt.has_min {k : Fin 4 | mayMove s (s.engine.pointer + 1 + k)} ⟨k₀, hfound⟩
    have hbefore (j : Fin 4) (hj : j < k) : ¬ mayMove s (s.engine.pointer + 1 + j) := fun hm => hmin j hm hj
    exact ⟨k, Option.some.inj (h.symm.trans (hfirst k hk hbefore)), hc, hbefore⟩
  · rintro ⟨k, rfl, hk, hbefore⟩
    exact hfirst k hk hbefore

/-- Settles O32: the queue's search by induction over its records, the channels' by the order of the rotation. -/
theorem offersOfQueueAndChannels : Obligations.OffersOfQueueAndChannels :=
  ⟨fun s => ⟨candidate_some_iff s, firstEligible_none_iff s [] s.rq.records⟩,
    fun s => ⟨nextChannel_some_iff s, nextChannel_none_iff s⟩⟩

end Sys2Proof.Machine
end

section
/-! PROOFS. What the laws of the queues and the timers read of a state, and the moves a step makes of it: every law is proved of
each move once, and what a step does is said once. -/

namespace Sys2Proof.Machine

/-! ### What the laws read -/

/-- The request whose work the bus holds (R84, R85). -/
def Bus.requestTag : Bus → Option Tag
  | .cycle w =>
    match w.owner with
    | .queue t => some t
    | .channel _ => none
    | .attention => none
  | .idle => none
  | .resetting _ _ => none

/-- The part of a state the laws of the queues and the timers are about: both queues, the request on the bus, and the Attention
Controller's interval, empty-answer counter and interval timer. -/
structure Tracked where
  rq : RequestQueue
  cq : CompletionQueue
  onBus : Option Tag
  interval : Byte
  emptyAnswers : Nat
  timer : IntervalTimer

def State.tracked (s : State) : Tracked :=
  { rq := s.rq, cq := s.cq, onBus := s.engine.bus.requestTag, interval := s.attn.interval
    emptyAnswers := s.attn.emptyAnswers, timer := s.attn.timer }

/-- The Attention Controller's counters are in their ranges (R152, R153, R161). -/
def AttentionInRange (interval : Byte) (emptyAnswers : Nat) (timer : IntervalTimer) : Prop :=
  interval ≠ 0 ∧ emptyAnswers ≤ 3 ∧ timer.legal = true

/-- Every running backoff timer is in its range (R55). -/
def BackoffInRange (b : Vector (Option Nat) 15) : Prop := ∀ n : Station, ∀ k ∈ b[n], 1 ≤ k ∧ k ≤ 2040

/-- The timers law (`TimersLegal`) of what is tracked. -/
def Tracked.TimersInRange (v : Tracked) : Prop :=
  AttentionInRange v.interval v.emptyAnswers v.timer ∧ BackoffInRange v.rq.backoff

theorem timersLegal_iff (s : State) : TimersLegal s ↔ s.tracked.TimersInRange := by
  simp only [TimersLegal, Tracked.TimersInRange, AttentionInRange, BackoffInRange, State.tracked, and_assoc]

/-- The tags held by the records of the two queues. -/
def Tracked.heldTags (v : Tracked) : List Tag := v.rq.records.map Request.tag ++ v.cq.records.map Completion.tag

/-- The queues' law (`QueueLaw`) of what is tracked, clause by clause. -/
structure Tracked.Accounting (v : Tracked) : Prop where
  requests_le : v.rq.records.length ≤ 16
  slots_le : v.cq.records.length + v.cq.reserved ≤ 16
  reserved_eq : v.cq.reserved = (v.rq.records.filter Request.reserved).length
  nodup : v.heldTags.Nodup
  tags_iff : ∀ t : Tag, v.cq.tags[t.toNat] = true ↔ t ∈ v.heldTags
  owner : ∀ t, v.onBus = some t →
    ∃ r ∈ v.rq.records, r.tag = t ∧ r.state = .active ∧ r.reserved = true ∧ r.body.station.isSome = true

theorem ownerActive_iff (s : State) : ownerActive s = true ↔ ∀ t, s.tracked.onBus = some t →
    ∃ r ∈ s.tracked.rq.records, r.tag = t ∧ r.state = .active ∧ r.reserved = true ∧ r.body.station.isSome = true := by
  unfold ownerActive
  split
  · next w hb =>
    split
    · next t ho => simp [State.tracked, hb, Bus.requestTag, ho, and_assoc]
    all_goals
      next ho => simp [State.tracked, hb, Bus.requestTag, ho]
  all_goals
    next hb => simp [State.tracked, hb, Bus.requestTag]

theorem queueLaw_iff (s : State) : QueueLaw s ↔ s.tracked.Accounting := by
  constructor
  · rintro ⟨hlen, hslots, hres, hnodup, htags, howner⟩
    exact ⟨hlen, hslots, hres, hnodup, htags, (ownerActive_iff s).mp howner⟩
  · rintro ⟨hlen, hslots, hres, hnodup, htags, howner⟩
    exact ⟨hlen, hslots, hres, hnodup, htags, (ownerActive_iff s).mpr howner⟩

/-- A record agrees with the bus and the timers (`Request.agrees`), state by state. -/
structure Tracked.Agrees (v : Tracked) (r : Request) : Prop where
  defers_le : r.defers ≤ 14
  active : r.state = .active → r.reserved = true ∧ v.onBus = some r.tag
  backoff : r.state = .backoff → r.reserved = true ∧ ∃ n, r.body.station = some n ∧ (v.rq.backoff[n]).isSome = true

theorem onBus_iff (s : State) (t : Tag) : onBus s t = true ↔ s.tracked.onBus = some t := by
  unfold onBus
  split
  · next w hb => cases ho : w.owner <;> simp [State.tracked, hb, Bus.requestTag, ho]
  all_goals
    next hb => simp [State.tracked, hb, Bus.requestTag]

theorem agrees_iff (s : State) (r : Request) : r.agrees s = true ↔ s.tracked.Agrees r := by
  have hrq : s.tracked.rq = s.rq := rfl
  unfold Request.agrees
  rw [Bool.and_eq_true, decide_eq_true_iff]
  constructor
  · rintro ⟨hd, hst⟩
    refine ⟨hd, fun h => ?_, fun h => ?_⟩
    · simpa [h, onBus_iff] using hst
    · simp only [h, Bool.and_eq_true] at hst
      obtain ⟨hr, hn⟩ := hst
      split at hn
      · exact ⟨hr, _, by assumption, hn⟩
      · cases hn
  · rintro ⟨hd, hactive, hbackoff⟩
    refine ⟨hd, ?_⟩
    cases h : r.state with
    | waiting => rfl
    | active => simpa [onBus_iff] using hactive h
    | backoff =>
      obtain ⟨hr, n, hn, hrun⟩ := hbackoff h
      rw [hrq] at hrun
      simp only [hr, hn, hrun, Bool.and_self]

/-- The law of the request records (`RequestStates`) of what is tracked. -/
structure Tracked.StatesAgree (v : Tracked) : Prop where
  agrees : ∀ r ∈ v.rq.records, v.Agrees r
  order : StationOrder v.rq.records

theorem requestStates_iff (s : State) : RequestStates s ↔ s.tracked.StatesAgree := by
  constructor
  · rintro ⟨h, ho⟩
    exact ⟨fun r hr => (agrees_iff s r).mp (h r hr), ho⟩
  · rintro ⟨h, ho⟩
    exact ⟨fun r hr => (agrees_iff s r).mpr (h r hr), ho⟩

/-! ### The moves -/

/-- The records with those of a tag replaced. -/
def replaceRecord (l : List Request) (r : Request) : List Request := l.map fun x => if x.tag = r.tag then r else x

/-- The records without those of a tag. -/
def removeTag (l : List Request) (t : Tag) : List Request := l.filter fun x => x.tag ≠ t

/-- The reservation count once a record holds its reservation (R47, R48). -/
def reservedWith (q : CompletionQueue) (r : Request) : Nat := if r.reserved then q.reserved else q.reserved + 1

/-- The Completion Queue after a retirement: the tag freed, or a completion of the tag at the tail (R72, R73). -/
def Leaves (q : CompletionQueue) (t : Tag) (held : Nat) (q' : CompletionQueue) : Prop :=
  q' = { q with reserved := held - 1, tags := q.tags.set t.toNat false } ∨
  ∃ c : Completion, c.tag = t ∧ q' = { q with records := q.records ++ [c], reserved := held - 1 }

/-- The moves of what is tracked, of which every step of the part that starts in `s₀` is made. -/
inductive Move (s₀ : State) (v : Tracked) : Tracked → Prop where
  /-- The Attention Controller's counters move within their ranges. -/
  | attend (i : Byte) (e : Nat) (t : IntervalTimer)
      (hrange : AttentionInRange v.interval v.emptyAnswers v.timer → AttentionInRange i e t) :
      Move s₀ v { v with interval := i, emptyAnswers := e, timer := t }
  /-- Backoff timers start or go on within their range; none stops. -/
  | runTimers (b : Vector (Option Nat) 15) (hrange : ProfilesLegal s₀ → BackoffInRange v.rq.backoff → BackoffInRange b)
      (hrun : ∀ n : Station, (v.rq.backoff[n]).isSome = true → (b[n]).isSome = true) :
      Move s₀ v { v with rq := { v.rq with backoff := b } }
  /-- A backoff timer expires (R56). -/
  | expire (n : Station) :
      Move s₀ v { v with
        rq := { records := v.rq.records.map (returnFromBackoff n), backoff := v.rq.backoff.set n none } }
  /-- POST appends a WAITING record with a tag not in use (R40, R41). -/
  | post (r : Request) (hnew : r.state = .waiting ∧ r.defers = 0 ∧ r.reserved = false)
      (hfree : v.cq.tags[r.tag.toNat] = false) (hroom : v.rq.records.length < 16) :
      Move s₀ v { v with
        rq := { v.rq with records := v.rq.records ++ [r] }
        cq := { v.cq with tags := v.cq.tags.set r.tag.toNat true } }
  /-- FLUSH removes the records that are not ACTIVE (R58). -/
  | flush :
      Move s₀ v { v with
        rq := { v.rq with records := v.rq.records.filter fun r => !flushable r }
        cq := { v.cq with
          reserved := v.cq.reserved - ((v.rq.records.filter flushable).filter Request.reserved).length
          tags := freeTags v.cq.tags (v.rq.records.filter flushable) } }
  /-- POP removes the head completion (R77). -/
  | pop (c : Completion) (rest : List Completion) (hhead : v.cq.records = c :: rest) :
      Move s₀ v { v with cq := { v.cq with records := rest, tags := v.cq.tags.set c.tag.toNat false } }
  /-- An eligible record's cycle begins (R47, R90). -/
  | grant (older younger : List Request) (r : Request) (hl : v.rq.records = older ++ r :: younger) (hbus : v.onBus = none)
      (hcredit : v.cq.records.length + v.cq.reserved < 16) (hst : r.body.station.isSome = true)
      (hfirst : ∀ x ∈ older, x.body.station ≠ r.body.station ∧ x.body ≠ .fence) :
      Move s₀ v { v with
        rq := { v.rq with records := replaceRecord v.rq.records { r with state := .active, reserved := true } }
        cq := { v.cq with reserved := reservedWith v.cq r }
        onBus := some r.tag }
  /-- A record retires, as its work leaves the bus or at its dispatch (R48, R50). -/
  | retire (r : Request) (held : Nat) (q : CompletionQueue) (hr : r ∈ v.rq.records)
      (hheld : v.onBus = some r.tag ∧ held = v.cq.reserved ∨
        v.onBus = none ∧ held = reservedWith v.cq r ∧ v.cq.records.length + v.cq.reserved < 16)
      (hq : Leaves v.cq r.tag held q) :
      Move s₀ v { v with rq := { v.rq with records := removeTag v.rq.records r.tag }, cq := q, onBus := none }
  /-- The record on the bus goes back to the queue after a DEFER below the limit (R52, R60). -/
  | defer (r : Request) (d : Nat) (st : RequestState) (hr : r ∈ v.rq.records) (hbus : v.onBus = some r.tag) (hd : d ≤ 14)
      (hst : st = .waiting ∨ st = .backoff ∧ ∃ n, r.body.station = some n ∧ (v.rq.backoff[n]).isSome = true) :
      Move s₀ v { v with
        rq := { v.rq with records := replaceRecord v.rq.records { r with defers := d, state := st } }
        onBus := none }
  /-- The bus work of a request is gone with no outcome delivered: in a legal part there is no such work. -/
  | dropWork (hno : cyclesFit s₀ = true → engineLegal s₀ = true → ∀ t r, v.onBus = some t →
        v.rq.records.find? (fun x => x.tag = t) = some r → r.body.station = none) :
      Move s₀ v { v with onBus := none }
  /-- The start of a bus reset cancels the timers and ends every BACKOFF (R60). -/
  | busReset :
      Move s₀ v { v with rq := { records := v.rq.records.map Request.atReset, backoff := Vector.replicate 15 none } }
  /-- A soft or pin reset (R198, R203). -/
  | reset : Move s₀ v State.reset.tracked

/-- A step of the part that starts in `s₀` leads from the first state to the second by moves. -/
def Reaches (s₀ s t : State) : Prop := Relation.ReflTransGen (Move s₀) s.tracked t.tracked

theorem Reaches.of_eq {s₀ s t : State} (h : t.tracked = s.tracked) : Reaches s₀ s t := by
  unfold Reaches
  rw [h]

theorem Reaches.of_move {s₀ s t : State} {v : Tracked} (h : Move s₀ s.tracked v) (ht : t.tracked = v) : Reaches s₀ s t :=
  .single (ht ▸ h)

theorem Reaches.trans {s₀ s t u : State} (h : Reaches s₀ s t) (h' : Reaches s₀ t u) : Reaches s₀ s u :=
  Relation.ReflTransGen.trans h h'

/-- The relation reads nothing but what is tracked. -/
theorem Reaches.congr {s₀ s s' t t' : State} (h : Reaches s₀ s t) (hs : s'.tracked = s.tracked) (ht : t'.tracked = t.tracked) :
    Reaches s₀ s' t' := by
  unfold Reaches
  rw [hs, ht]
  exact h

/-- A step may start from any state of the same tracked part. -/
theorem Reaches.start {s₀ s s' t : State} (h : Reaches s₀ s' t) (hs : s.tracked = s'.tracked) : Reaches s₀ s t :=
  h.congr hs rfl

/-- What every move keeps, a step keeps. -/
theorem Reaches.keeps {s₀ : State} {P : Tracked → Prop} (hmove : ∀ v w, Move s₀ v w → P v → P w) {s t : State}
    (h : Reaches s₀ s t) (hs : P s.tracked) : P t.tracked := by
  unfold Reaches at h
  generalize t.tracked = w at h
  induction h with
  | refl => exact hs
  | tail _ hm ih => exact hmove _ _ hm ih

end Sys2Proof.Machine
end

section
/-! PROOFS. The laws of the timers and of the queues are kept by every move. -/

namespace Sys2Proof.Machine

/-! ### The timers (R55, R152, R153, R161) -/

theorem backoffInRange_replicate : BackoffInRange (Vector.replicate 15 none) := by
  intro n k hk
  simp at hk

theorem backoffInRange_set {b : Vector (Option Nat) 15} (hb : BackoffInRange b) (n : Station) {t : Option Nat}
    (ht : ∀ k ∈ t, 1 ≤ k ∧ k ≤ 2040) : BackoffInRange (b.set n t) := by
  intro m k hk
  rw [Fin.getElem_fin, Vector.getElem_set] at hk
  split at hk
  · exact ht k hk
  · exact hb m k hk

theorem Move.keeps_timers {s₀ : State} (hp : ProfilesLegal s₀) {v w : Tracked} (h : Move s₀ v w) (hv : v.TimersInRange) :
    w.TimersInRange := by
  obtain ⟨hattn, hback⟩ := hv
  cases h with
  | attend i e t hrange => exact ⟨hrange hattn, hback⟩
  | runTimers b hrange => exact ⟨hattn, hrange hp hback⟩
  | expire n => exact ⟨hattn, backoffInRange_set hback n (by simp)⟩
  | busReset => exact ⟨hattn, backoffInRange_replicate⟩
  | reset => exact ⟨⟨by decide, by decide, rfl⟩, backoffInRange_replicate⟩
  | post | flush | pop | grant | retire | defer | dropWork => exact ⟨hattn, hback⟩

/-! ### Lists of records with one record of each tag -/

theorem removeTag_sublist (l : List Request) (t : Tag) : (removeTag l t).Sublist l := List.filter_sublist

theorem mem_removeTag {l : List Request} {t : Tag} {x : Request} : x ∈ removeTag l t ↔ x ∈ l ∧ x.tag ≠ t := by
  simp [removeTag]

/-- A record and the records without its tag are all the records. -/
theorem perm_cons_removeTag {l : List Request} (hn : (l.map Request.tag).Nodup) {r : Request} (hr : r ∈ l) :
    l.Perm (r :: removeTag l r.tag) := by
  have herase : l.erase r = removeTag l r.tag := by
    rw [hn.of_map.erase_eq_filter]
    refine List.filter_congr fun x hx => ?_
    have hinj : x = r ↔ x.tag = r.tag := ⟨fun h => h ▸ rfl, fun h => List.inj_on_of_nodup_map hn hx hr h⟩
    simp [hinj, bne, Bool.beq_eq_decide_eq]
  rw [← herase]
  exact List.perm_cons_erase hr

/-- Replacing a record by one of its tag leaves the other records as they are. -/
theorem perm_replaceRecord {l : List Request} (hn : (l.map Request.tag).Nodup) {r r' : Request} (hr : r ∈ l)
    (ht : r'.tag = r.tag) : (replaceRecord l r').Perm (r' :: removeTag l r.tag) := by
  have hkeep : (removeTag l r.tag).map (fun x => if x.tag = r'.tag then r' else x) = removeTag l r.tag := by
    refine (List.map_congr_left fun x hx => ?_).trans (List.map_id _)
    rw [if_neg (ht ▸ (mem_removeTag.mp hx).2), id]
  have h := (perm_cons_removeTag hn hr).map fun x => if x.tag = r'.tag then r' else x
  rw [List.map_cons, hkeep, if_pos ht.symm] at h
  exact h

theorem removeTag_replaceRecord (l : List Request) (r : Request) : removeTag (replaceRecord l r) r.tag = removeTag l r.tag := by
  induction l with
  | nil => rfl
  | cons x l ih =>
    simp only [removeTag, replaceRecord] at ih ⊢
    by_cases hx : x.tag = r.tag
    · simpa [hx] using ih
    · simpa [hx] using ih

/-! ### The tags in use (R74) -/

theorem getElem_set_tag (v : Vector Bool 64) (t u : Tag) (b : Bool) :
    (v.set t.toNat b)[u.toNat] = if u = t then b else v[u.toNat] := by
  rw [Vector.getElem_set]
  simp only [← BitVec.toNat_inj, eq_comm]

/-- The tags freed are those of the records given. -/
theorem freeTags_getElem (rs : List Request) (v : Vector Bool 64) (t : Tag) :
    (freeTags v rs)[t.toNat] = true ↔ v[t.toNat] = true ∧ ∀ r ∈ rs, r.tag ≠ t := by
  induction rs generalizing v with
  | nil => simp [freeTags]
  | cons r rs ih =>
    have hcons : freeTags v (r :: rs) = freeTags (v.set r.tag.toNat false) rs := rfl
    rw [hcons, ih, getElem_set_tag]
    by_cases h : t = r.tag
    · simp [h]
    · simp [h, Ne.symm h]

/-! ### The queues' accounting (R38, R42, R47, R70, R74) -/

namespace Tracked.Accounting

variable {v : Tracked}

/-- The order of the records plays no part. -/
theorem perm (h : v.Accounting) {l : List Request} (hl : l.Perm v.rq.records) :
    Accounting { v with rq := { v.rq with records := l } } where
  requests_le := hl.length_eq ▸ h.requests_le
  slots_le := h.slots_le
  reserved_eq := h.reserved_eq.trans (hl.filter _).length_eq.symm
  nodup := (((hl.map _).append_right _).nodup_iff).mpr h.nodup
  tags_iff t := (h.tags_iff t).trans ((hl.map _).append_right _).mem_iff.symm
  owner t ht := by
    obtain ⟨r, hr, hrest⟩ := h.owner t ht
    exact ⟨r, hl.mem_iff.mpr hr, hrest⟩

theorem records_nodup (h : v.Accounting) : (v.rq.records.map Request.tag).Nodup := h.nodup.of_append_left

/-- The records are one of them and those without its tag. -/
theorem cons_removeTag (h : v.Accounting) {r : Request} (hr : r ∈ v.rq.records) :
    Accounting { v with rq := { v.rq with records := r :: removeTag v.rq.records r.tag } } :=
  h.perm (perm_cons_removeTag h.records_nodup hr).symm

/-- The record of the bus work is ACTIVE with its reservation. -/
theorem onBus (h : v.Accounting) {r : Request} (hr : r ∈ v.rq.records) (hb : v.onBus = some r.tag) :
    r.state = .active ∧ r.reserved = true ∧ r.body.station.isSome = true := by
  obtain ⟨x, hx, hxt, hrest⟩ := h.owner _ hb
  rwa [List.inj_on_of_nodup_map h.records_nodup hx hr hxt] at hrest

/-- A record that is given another state, holding a reservation, takes one where it held none. -/
theorem replace (h : v.Accounting) {r r' : Request} (hr : r ∈ v.rq.records) (ht : r'.tag = r.tag) (hres : r'.reserved = true)
    {b : Option Tag} (hb : b = none ∨ b = some r'.tag ∧ r'.state = .active ∧ r'.body.station.isSome = true)
    (hcredit : r.reserved = true ∨ v.cq.records.length + v.cq.reserved < 16) :
    Accounting { v with
      rq := { v.rq with records := replaceRecord v.rq.records r' }
      cq := { v.cq with reserved := reservedWith v.cq r }
      onBus := b } := by
  have hc := h.cons_removeTag hr
  have hlen := hc.requests_le
  have hslots := h.slots_le
  have hcount := hc.reserved_eq
  refine perm (v := { v with
    rq := { v.rq with records := r' :: removeTag v.rq.records r.tag }
    cq := { v.cq with reserved := reservedWith v.cq r }
    onBus := b }) ⟨hlen, ?_, ?_, ?_, ?_, ?_⟩ (perm_replaceRecord h.records_nodup hr ht)
  · simp only [reservedWith]
    split
    · exact hslots
    · next hn =>
      have := hcredit.resolve_left hn
      omega
  · cases hx : r.reserved <;> simp_all [reservedWith]
  · simpa [heldTags, ht] using hc.nodup
  · simpa [heldTags, ht] using hc.tags_iff
  · rintro t rfl
    obtain hb | ⟨hb, hst, hs⟩ := hb
    · cases hb
    · cases hb
      exact ⟨r', List.mem_cons_self, rfl, hst, hres, hs⟩

/-- A retired record's reservation goes with it; its tag is freed, or held by the completion that takes its place. -/
theorem retire (h : v.Accounting) {r : Request} {held : Nat} {q : CompletionQueue} (hr : r ∈ v.rq.records)
    (hheld : v.onBus = some r.tag ∧ held = v.cq.reserved ∨
      v.onBus = none ∧ held = reservedWith v.cq r ∧ v.cq.records.length + v.cq.reserved < 16)
    (hq : Leaves v.cq r.tag held q) :
    Accounting { v with rq := { v.rq with records := removeTag v.rq.records r.tag }, cq := q, onBus := none } := by
  have hc := h.cons_removeTag hr
  have hlen : (removeTag v.rq.records r.tag).length + 1 ≤ 16 := hc.requests_le
  have hslots := h.slots_le
  have hnodup := hc.nodup
  have htags := hc.tags_iff
  have hcount : held = ((removeTag v.rq.records r.tag).filter Request.reserved).length + 1 := by
    have hcr := hc.reserved_eq
    obtain ⟨hb, rfl⟩ | ⟨-, rfl, -⟩ := hheld
    · simpa [(h.onBus hr hb).2.1] using hcr
    · cases hx : r.reserved <;> simp_all [reservedWith]
  have hheldle : v.cq.records.length + held ≤ 16 := by
    obtain ⟨-, rfl⟩ | ⟨-, rfl, hcredit⟩ := hheld
    · exact hslots
    · simp only [reservedWith]
      split <;> omega
  obtain rfl | ⟨c, hct, rfl⟩ := hq
  · refine ⟨Nat.le_of_succ_le hlen, by dsimp only; omega, by dsimp only; omega, ?_, fun t => ?_, nofun⟩
    · exact (List.nodup_cons.mp hnodup).2
    · have ht := htags t
      have hnot := (List.nodup_cons.mp hnodup).1
      simp only [heldTags, List.map_cons, List.cons_append, List.mem_cons] at ht hnot ⊢
      rw [getElem_set_tag]
      split
      · next he =>
        rw [he]
        simpa using hnot
      · next he => exact ht.trans (or_iff_right he)
  · have hperm : (removeTag v.rq.records r.tag).map Request.tag ++ (v.cq.records ++ [c]).map Completion.tag |>.Perm
        (r.tag :: ((removeTag v.rq.records r.tag).map Request.tag ++ v.cq.records.map Completion.tag)) := by
      rw [List.map_append, ← List.append_assoc, ← hct]
      exact List.perm_append_singleton _ _
    refine ⟨Nat.le_of_succ_le hlen, ?_, by dsimp only; omega, hperm.nodup_iff.mpr hnodup,
      fun t => (htags t).trans hperm.mem_iff.symm, nofun⟩
    dsimp only
    rw [List.length_append, List.length_singleton]
    omega

/-- A change of each record that leaves tag, reservation and station, and an ACTIVE record ACTIVE, leaves the accounts. -/
theorem map (h : v.Accounting) {f : Request → Request} (htag : ∀ r, (f r).tag = r.tag) (hres : ∀ r, (f r).reserved = r.reserved)
    (hactive : ∀ r, r.state = .active → f r = r) (b : Vector (Option Nat) 15) :
    Accounting { v with rq := { records := v.rq.records.map f, backoff := b } } := by
  have hheld : (v.rq.records.map f).map Request.tag = v.rq.records.map Request.tag := by
    rw [List.map_map]
    exact List.map_congr_left fun r _ => htag r
  have hcount : ((v.rq.records.map f).filter Request.reserved).length = (v.rq.records.filter Request.reserved).length := by
    rw [List.filter_map, List.length_map]
    exact congrArg List.length (List.filter_congr fun r _ => hres r)
  refine ⟨?_, h.slots_le, h.reserved_eq.trans hcount.symm, ?_, fun t => ?_, fun t ht => ?_⟩
  · rw [List.length_map]
    exact h.requests_le
  · simp only [heldTags, hheld]
    exact h.nodup
  · simp only [heldTags, hheld]
    exact h.tags_iff t
  · obtain ⟨r, hr, hrt, hst, hrest⟩ := h.owner t ht
    exact ⟨r, List.mem_map.mpr ⟨r, hr, hactive r hst⟩, hrt, hst, hrest⟩

/-- A tag not in use comes into use with a new record at the tail. -/
theorem post (h : v.Accounting) {r : Request} (hres : r.reserved = false) (hfree : v.cq.tags[r.tag.toNat] = false)
    (hroom : v.rq.records.length < 16) :
    Accounting { v with
      rq := { v.rq with records := v.rq.records ++ [r] }
      cq := { v.cq with tags := v.cq.tags.set r.tag.toNat true } } := by
  have hnot : r.tag ∉ v.heldTags := fun hr => Bool.false_ne_true (hfree.symm.trans ((h.tags_iff _).mpr hr))
  refine perm (v := { v with
    rq := { v.rq with records := r :: v.rq.records }
    cq := { v.cq with tags := v.cq.tags.set r.tag.toNat true } }) ⟨hroom, h.slots_le, ?_, ?_, fun t => ?_, fun t ht => ?_⟩
    (List.perm_append_singleton _ _)
  · rw [List.filter_cons_of_neg (by simp [hres])]
    exact h.reserved_eq
  · exact List.nodup_cons.mpr ⟨hnot, h.nodup⟩
  · have hcons : t ∈ heldTags { v with
        rq := { v.rq with records := r :: v.rq.records }
        cq := { v.cq with tags := v.cq.tags.set r.tag.toNat true } } ↔ t = r.tag ∨ t ∈ v.heldTags := List.mem_cons
    rw [hcons, getElem_set_tag]
    split
    · next he => simp [he]
    · next he => exact (h.tags_iff t).trans (or_iff_right he).symm
  · obtain ⟨x, hx, hrest⟩ := h.owner t ht
    exact ⟨x, List.mem_cons_of_mem _ hx, hrest⟩

/-- A completion taken out frees its tag. -/
theorem pop (h : v.Accounting) {c : Completion} {rest : List Completion} (hhead : v.cq.records = c :: rest) :
    Accounting { v with cq := { v.cq with records := rest, tags := v.cq.tags.set c.tag.toNat false } } := by
  have hperm : v.heldTags.Perm (c.tag :: (v.rq.records.map Request.tag ++ rest.map Completion.tag)) := by
    rw [heldTags, hhead]
    exact List.perm_middle
  obtain ⟨hnot, hnodup⟩ := List.nodup_cons.mp (hperm.nodup_iff.mp h.nodup)
  have hslots := h.slots_le
  rw [hhead, List.length_cons] at hslots
  refine ⟨h.requests_le, by dsimp only; omega, h.reserved_eq, hnodup, fun t => ?_, h.owner⟩
  have ht := (h.tags_iff t).trans hperm.mem_iff
  rw [List.mem_cons] at ht
  rw [getElem_set_tag]
  split
  · next he =>
    rw [he]
    exact iff_of_false Bool.false_ne_true hnot
  · next he => exact ht.trans (or_iff_right he)

/-- The records FLUSH removes go with their reservations and tags. -/
theorem flush (h : v.Accounting) :
    Accounting { v with
      rq := { v.rq with records := v.rq.records.filter fun r => !flushable r }
      cq := { v.cq with
        reserved := v.cq.reserved - ((v.rq.records.filter flushable).filter Request.reserved).length
        tags := freeTags v.cq.tags (v.rq.records.filter flushable) } } := by
  have hall : (v.rq.records.filter flushable ++ v.rq.records.filter fun r => !flushable r).Perm v.rq.records :=
    List.filter_append_perm _ _
  obtain ⟨hlen, hslots, hcount, hnodup, htags, -⟩ := h.perm hall
  rw [List.length_append] at hlen
  rw [List.filter_append, List.length_append] at hcount
  simp only [heldTags, List.map_append, List.append_assoc] at hnodup htags
  refine ⟨by dsimp only; omega, by dsimp only at hslots ⊢; omega, by dsimp only at hcount ⊢; omega, hnodup.of_append_right,
    fun t => ?_, fun t ht => ?_⟩
  · have hdisj := List.disjoint_of_nodup_append hnodup
    have hgone : (∀ r ∈ v.rq.records.filter flushable, r.tag ≠ t) ↔ t ∉ (v.rq.records.filter flushable).map Request.tag := by
      simp
    rw [freeTags_getElem, hgone, htags t, List.mem_append]
    exact ⟨fun ⟨hor, hno⟩ => hor.resolve_left hno, fun hin => ⟨.inr hin, fun hg => hdisj hg hin⟩⟩
  · obtain ⟨r, hr, hrt, hst, hrest⟩ := h.owner t ht
    exact ⟨r, List.mem_filter.mpr ⟨hr, by simp [flushable, hst]⟩, hrt, hst, hrest⟩

/-- Without bus work no record has to be on the bus. -/
theorem noWork (h : v.Accounting) : Accounting { v with onBus := none } :=
  ⟨h.requests_le, h.slots_le, h.reserved_eq, h.nodup, h.tags_iff, nofun⟩

end Tracked.Accounting

theorem returnFromBackoff_tag (n : Station) (r : Request) : (returnFromBackoff n r).tag = r.tag := by
  unfold returnFromBackoff
  split <;> rfl

theorem returnFromBackoff_body (n : Station) (r : Request) : (returnFromBackoff n r).body = r.body := by
  unfold returnFromBackoff
  split <;> rfl

theorem returnFromBackoff_reserved (n : Station) (r : Request) : (returnFromBackoff n r).reserved = r.reserved := by
  unfold returnFromBackoff
  split <;> rfl

theorem returnFromBackoff_active (n : Station) {r : Request} (h : r.state = .active) : returnFromBackoff n r = r := by
  simp [returnFromBackoff, h]

theorem atReset_tag (r : Request) : r.atReset.tag = r.tag := by
  unfold Request.atReset
  split <;> rfl

theorem atReset_body (r : Request) : r.atReset.body = r.body := by
  unfold Request.atReset
  split <;> rfl

theorem atReset_reserved (r : Request) : r.atReset.reserved = r.reserved := by
  unfold Request.atReset
  split <;> rfl

theorem atReset_active {r : Request} (h : r.state = .active) : r.atReset = r := by
  simp [Request.atReset, h]

theorem accounting_reset : State.reset.tracked.Accounting where
  requests_le := by decide
  slots_le := by decide
  reserved_eq := rfl
  nodup := List.nodup_nil
  tags_iff t := by simp [Tracked.heldTags, State.tracked, State.reset, RequestQueue.reset, CompletionQueue.reset]
  owner := nofun

theorem Move.keeps_accounting {s₀ : State} {v w : Tracked} (h : Move s₀ v w) (hv : v.Accounting) : w.Accounting := by
  cases h with
  | attend | runTimers => exact ⟨hv.requests_le, hv.slots_le, hv.reserved_eq, hv.nodup, hv.tags_iff, hv.owner⟩
  | expire n =>
    exact hv.map (returnFromBackoff_tag n) (returnFromBackoff_reserved n) (fun _ => returnFromBackoff_active n) _
  | post r hnew hfree hroom => exact hv.post hnew.2.2 hfree hroom
  | flush => exact hv.flush
  | pop c rest hhead => exact hv.pop hhead
  | grant older younger r hl hbus hcredit hst hfirst =>
    have hr : r ∈ v.rq.records := hl ▸ List.mem_append_right _ List.mem_cons_self
    exact hv.replace (r' := { r with state := .active, reserved := true }) hr rfl rfl (.inr ⟨rfl, rfl, hst⟩) (.inr hcredit)
  | retire r held q hr hheld hq => exact hv.retire hr hheld hq
  | defer r d st hr hbus =>
    have hres := (hv.onBus hr hbus).2.1
    have hkept := hv.replace (r' := { r with defers := d, state := st }) hr rfl hres (.inl rfl) (.inl hres)
    rwa [reservedWith, if_pos hres] at hkept
  | dropWork => exact hv.noWork
  | busReset => exact hv.map atReset_tag atReset_reserved (fun _ => atReset_active) _
  | reset => exact accounting_reset

end Sys2Proof.Machine
end

section
/-! PROOFS. The law of the request records' states is kept by every move of a legal part (R29, R43 to R47, R56, R60). -/

namespace Sys2Proof.Machine

theorem StationOrder.sublist {l l' : List Request} (h : StationOrder l) (hs : l'.Sublist l) : StationOrder l' :=
  ⟨h.1.sublist hs, fun r hr => h.2 r (hs.subset hr)⟩

/-- The order speaks of bodies and reservations only. -/
theorem StationOrder.map {l : List Request} (h : StationOrder l) {f : Request → Request}
    (hf : ∀ r ∈ l, (f r).body = r.body ∧ ((f r).reserved = true → r.reserved = true)) : StationOrder (l.map f) := by
  constructor
  · rw [List.pairwise_map]
    refine h.1.imp_of_mem fun {x y} hx hy hxy hres => ?_
    rw [(hf x hx).1, (hf y hy).1]
    exact hxy ((hf y hy).2 hres)
  · intro r hr hres
    obtain ⟨x, hx, rfl⟩ := List.mem_map.mp hr
    rw [(hf x hx).1]
    exact h.2 x hx ((hf x hx).2 hres)

/-- The records of a replacement: the new one, and the others as they were. -/
theorem mem_replaceRecord {l : List Request} {r x : Request} (h : x ∈ replaceRecord l r) : x = r ∨ x ∈ l ∧ x.tag ≠ r.tag := by
  obtain ⟨y, hy, rfl⟩ := List.mem_map.mp h
  split
  · exact .inl rfl
  · next hne => exact .inr ⟨hy, hne⟩

namespace Tracked

variable {v w : Tracked}

/-- A record off the bus agrees with a state that keeps its timer running. -/
theorem Agrees.of_not_active {r : Request} (h : v.Agrees r) (hr : r.state ≠ .active)
    (hrun : ∀ n : Station, (v.rq.backoff[n]).isSome = true → (w.rq.backoff[n]).isSome = true) : w.Agrees r where
  defers_le := h.defers_le
  active hst := absurd hst hr
  backoff hst := by
    obtain ⟨hres, n, hn, hsome⟩ := h.backoff hst
    exact ⟨hres, n, hn, hrun n hsome⟩

/-- Agreement reads the timers and the request on the bus. -/
theorem Agrees.congr {r : Request} (h : v.Agrees r) (hb : w.onBus = v.onBus) (ht : w.rq.backoff = v.rq.backoff) : w.Agrees r where
  defers_le := h.defers_le
  active hst := hb ▸ h.active hst
  backoff hst := by
    rw [ht]
    exact h.backoff hst

/-- A record that waits agrees with any timers and any bus. -/
theorem Agrees.of_waiting {r : Request} (hd : r.defers ≤ 14) (hst : r.state = .waiting) : v.Agrees r where
  defers_le := hd
  active h := by simp [hst] at h
  backoff h := by simp [hst] at h

namespace StatesAgree

/-- With no request on the bus no record is ACTIVE. -/
theorem not_active (h : v.StatesAgree) (hb : v.onBus = none) {r : Request} (hr : r ∈ v.rq.records) : r.state ≠ .active := by
  intro hst
  have hbus := ((h.agrees r hr).active hst).2
  rw [hb] at hbus
  cases hbus

/-- Only the record on the bus is ACTIVE. -/
theorem not_active_of_tag (h : v.StatesAgree) {r x : Request} (hb : v.onBus = some r.tag ∨ v.onBus = none)
    (hx : x ∈ v.rq.records) (ht : x.tag ≠ r.tag) : x.state ≠ .active := by
  intro hst
  obtain hb | hb := hb
  · exact ht (Option.some.inj (((h.agrees x hx).active hst).2.symm.trans hb))
  · exact h.not_active hb hx hst

/-- The other records agree with a bus on which none of them is. -/
theorem agrees_of_tag (h : v.StatesAgree) {r x : Request} (hb : v.onBus = some r.tag ∨ v.onBus = none)
    (hx : x ∈ v.rq.records) (ht : x.tag ≠ r.tag) (hw : w.rq.backoff = v.rq.backoff) : w.Agrees x := by
  refine (h.agrees x hx).of_not_active (h.not_active_of_tag hb hx ht) fun n hrun => ?_
  rw [hw]
  exact hrun

theorem runTimers (h : v.StatesAgree) {b : Vector (Option Nat) 15}
    (hrun : ∀ n : Station, (v.rq.backoff[n]).isSome = true → (b[n]).isSome = true) :
    StatesAgree { v with rq := { v.rq with backoff := b } } where
  agrees r hr := by
    refine ⟨(h.agrees r hr).defers_le, (h.agrees r hr).active, fun hst => ?_⟩
    obtain ⟨hres, n, hn, hsome⟩ := (h.agrees r hr).backoff hst
    exact ⟨hres, n, hn, hrun n hsome⟩
  order := h.order

/-- A timer that expires returns the BACKOFF records of its station; the others keep theirs. -/
theorem expire (h : v.StatesAgree) (n : Station) :
    StatesAgree { v with
      rq := { records := v.rq.records.map (returnFromBackoff n), backoff := v.rq.backoff.set n none } } where
  agrees := by
    intro x hx
    obtain ⟨r, hr, rfl⟩ := List.mem_map.mp hx
    have hagrees := h.agrees r hr
    unfold returnFromBackoff
    split
    · exact .of_waiting hagrees.defers_le rfl
    · next hnot =>
      refine ⟨hagrees.defers_le, hagrees.active, fun hst => ?_⟩
      obtain ⟨hres, m, hm, hsome⟩ := hagrees.backoff hst
      have hne : n ≠ m := fun he => hnot ⟨hst, he ▸ hm⟩
      refine ⟨hres, m, hm, ?_⟩
      rw [Fin.getElem_fin, Vector.getElem_set_ne _ _ (fun he => hne (Fin.ext he))]
      exact hsome
  order := h.order.map fun r _ => ⟨returnFromBackoff_body n r, fun hr => returnFromBackoff_reserved n r ▸ hr⟩

theorem post (h : v.StatesAgree) {r : Request} (hnew : r.state = .waiting ∧ r.defers = 0 ∧ r.reserved = false) :
    StatesAgree { v with
      rq := { v.rq with records := v.rq.records ++ [r] }
      cq := { v.cq with tags := v.cq.tags.set r.tag.toNat true } } where
  agrees := by
    intro x hx
    obtain hx | hx := List.mem_append.mp hx
    · exact (h.agrees x hx).congr rfl rfl
    · obtain rfl := List.mem_singleton.mp hx
      exact .of_waiting (by omega) hnew.1
  order := by
    constructor
    · refine List.pairwise_append.mpr ⟨h.order.1, List.pairwise_singleton _ _, fun x _ y hy hres => ?_⟩
      obtain rfl := List.mem_singleton.mp hy
      rw [hnew.2.2] at hres
      cases hres
    · intro x hx hres
      obtain hx | hx := List.mem_append.mp hx
      · exact h.order.2 x hx hres
      · obtain rfl := List.mem_singleton.mp hx
        rw [hnew.2.2] at hres
        cases hres

/-- Fewer records with the same bus and timers. -/
theorem sublist (h : v.StatesAgree) {l : List Request} (hl : l.Sublist v.rq.records) (q : CompletionQueue) :
    StatesAgree { v with rq := { v.rq with records := l }, cq := q } where
  agrees x hx := (h.agrees x (hl.subset hx)).congr rfl rfl
  order := h.order.sublist hl

/-- A granted record stands behind no other of its station and no FENCE, so it may hold its reservation (R44, R45). -/
theorem grant (h : v.StatesAgree) (hn : (v.rq.records.map Request.tag).Nodup) {older younger : List Request} {r : Request}
    (hl : v.rq.records = older ++ r :: younger) (hbus : v.onBus = none) (hst : r.body.station.isSome = true)
    (hfirst : ∀ x ∈ older, x.body.station ≠ r.body.station ∧ x.body ≠ .fence) (q : CompletionQueue) :
    StatesAgree { v with
      rq := { v.rq with records := replaceRecord v.rq.records { r with state := .active, reserved := true } }
      cq := q
      onBus := some r.tag } where
  agrees := by
    intro x hx
    obtain rfl | ⟨hx, ht⟩ := mem_replaceRecord hx
    · exact ⟨(h.agrees r (hl ▸ List.mem_append_right _ List.mem_cons_self)).defers_le, fun _ => ⟨rfl, rfl⟩, nofun⟩
    · exact h.agrees_of_tag (.inr hbus) hx ht rfl
  order := by
    have hsplit : replaceRecord v.rq.records { r with state := .active, reserved := true } =
        older ++ { r with state := .active, reserved := true } :: younger := by
      rw [hl, List.map_append, List.map_cons, List.nodup_middle, List.nodup_cons, List.mem_append] at hn
      have hkeep {l : List Request} (hr : r.tag ∉ l.map Request.tag) :
          replaceRecord l { r with state := .active, reserved := true } = l := by
        refine (List.map_congr_left fun x hx => if_neg fun ht => hr ?_).trans (List.map_id l)
        exact ht ▸ List.mem_map_of_mem hx
      have ho := hkeep fun hr => hn.1 (.inl hr)
      have hy := hkeep fun hr => hn.1 (.inr hr)
      rw [replaceRecord] at ho hy
      rw [hl, replaceRecord, List.map_append, List.map_cons, ho, hy, if_pos rfl]
    obtain ⟨hpair, hall⟩ := h.order
    rw [hl] at hpair hall
    obtain ⟨hold, hrest, hcross⟩ := List.pairwise_append.mp hpair
    obtain ⟨hr, hyoung⟩ := List.pairwise_cons.mp hrest
    dsimp only
    rw [hsplit]
    constructor
    · refine List.pairwise_append.mpr ⟨hold, List.pairwise_cons.mpr ⟨hr, hyoung⟩, fun x hx y hy => ?_⟩
      obtain rfl | hy := List.mem_cons.mp hy
      · exact fun _ => hfirst x hx
      · exact hcross x hx y (List.mem_cons_of_mem _ hy)
    · intro x hx
      simp only [List.mem_append, List.mem_cons] at hx
      obtain hx | rfl | hx := hx
      · exact hall x (List.mem_append_left _ hx)
      · exact fun _ => hst
      · exact hall x (List.mem_append_right _ (List.mem_cons_of_mem _ hx))

/-- The record that leaves was the only one that could be on the bus. -/
theorem retire (h : v.StatesAgree) {r : Request} (hb : v.onBus = some r.tag ∨ v.onBus = none) (q : CompletionQueue) :
    StatesAgree { v with rq := { v.rq with records := removeTag v.rq.records r.tag }, cq := q, onBus := none } where
  agrees x hx := by
    obtain ⟨hx, ht⟩ := mem_removeTag.mp hx
    exact h.agrees_of_tag hb hx ht rfl
  order := h.order.sublist (removeTag_sublist _ _)

/-- The record on the bus goes off it, to wait or with its station's timer running. -/
theorem defer (h : v.StatesAgree) (ha : v.Accounting) {r : Request} {d : Nat} {st : RequestState} (hr : r ∈ v.rq.records)
    (hb : v.onBus = some r.tag) (hd : d ≤ 14)
    (hst : st = .waiting ∨ st = .backoff ∧ ∃ n, r.body.station = some n ∧ (v.rq.backoff[n]).isSome = true) :
    StatesAgree { v with
      rq := { v.rq with records := replaceRecord v.rq.records { r with defers := d, state := st } }
      onBus := none } where
  agrees := by
    intro x hx
    obtain rfl | ⟨hx, ht⟩ := mem_replaceRecord hx
    · obtain rfl | ⟨rfl, hn⟩ := hst
      · exact .of_waiting hd rfl
      · exact ⟨hd, nofun, fun _ => ⟨(ha.onBus hr hb).2.1, hn⟩⟩
    · exact h.agrees_of_tag (.inl hb) hx ht rfl
  order := h.order.map fun x hx => by
    split
    · next ht =>
      obtain rfl := List.inj_on_of_nodup_map ha.records_nodup hx hr ht
      exact ⟨rfl, id⟩
    · exact ⟨rfl, id⟩

/-- In a legal part the work that goes without an outcome was no request's. -/
theorem dropWork (h : v.StatesAgree) (ha : v.Accounting)
    (hno : ∀ t r, v.onBus = some t → v.rq.records.find? (fun x => x.tag = t) = some r → r.body.station = none) :
    StatesAgree { v with onBus := none } where
  agrees r hr := by
    refine (h.agrees r hr).of_not_active (fun hst => ?_) fun _ hrun => hrun
    have hbus := ((h.agrees r hr).active hst).2
    have hsome : (v.rq.records.find? fun x => x.tag = r.tag).isSome = true :=
      List.find?_isSome.mpr ⟨r, hr, decide_eq_true rfl⟩
    obtain ⟨x, hx⟩ := Option.isSome_iff_exists.mp hsome
    have hxt : x.tag = r.tag := by simpa using List.find?_some hx
    have hxr := List.inj_on_of_nodup_map ha.records_nodup (List.mem_of_find?_eq_some hx) hr hxt
    have hstation := (ha.onBus hr hbus).2.2
    rw [← hxr, hno _ x hbus hx] at hstation
    cases hstation
  order := h.order

/-- No record is in BACKOFF after the start of a bus reset, so no timer is missed (R60). -/
theorem busReset (h : v.StatesAgree) :
    StatesAgree { v with rq := { records := v.rq.records.map Request.atReset, backoff := Vector.replicate 15 none } } where
  agrees := by
    intro x hx
    obtain ⟨r, hr, rfl⟩ := List.mem_map.mp hx
    have hagrees := h.agrees r hr
    unfold Request.atReset
    split
    · exact .of_waiting hagrees.defers_le rfl
    · next hst => exact ⟨hagrees.defers_le, hagrees.active, fun hb => absurd hb hst⟩
  order := h.order.map fun r _ => ⟨atReset_body r, fun hr => atReset_reserved r ▸ hr⟩

end StatesAgree

end Tracked

theorem statesAgree_reset : State.reset.tracked.StatesAgree :=
  ⟨nofun, .nil, nofun⟩

theorem Move.keeps_states {s₀ : State} (hfit : cyclesFit s₀ = true) (hlegal : engineLegal s₀ = true) {v w : Tracked}
    (h : Move s₀ v w) (ha : v.Accounting) (hv : v.StatesAgree) : w.StatesAgree := by
  cases h with
  | attend => exact ⟨fun r hr => (hv.agrees r hr).congr rfl rfl, hv.order⟩
  | runTimers b _ hrun => exact hv.runTimers hrun
  | expire n => exact hv.expire n
  | post r hnew => exact hv.post hnew
  | flush => exact hv.sublist List.filter_sublist _
  | pop => exact ⟨fun r hr => (hv.agrees r hr).congr rfl rfl, hv.order⟩
  | grant older younger r hl hbus hcredit hst hfirst => exact hv.grant ha.records_nodup hl hbus hst hfirst _
  | retire r held q hr hheld => exact hv.retire (hheld.imp And.left And.left) q
  | defer r d st hr hbus hd hst => exact hv.defer ha hr hbus hd hst
  | dropWork hno => exact hv.dropWork ha (hno hfit hlegal)
  | busReset => exact hv.busReset
  | reset => exact statesAgree_reset

end Sys2Proof.Machine
end

section
/-! PROOFS. What the operations of the part do to what is tracked: most leave it, the others are moves. -/

namespace Sys2Proof.Machine

/-! ### Operations that leave it -/

/-- An operation that keeps both queues, the bus state and the Attention Controller keeps all that is tracked. -/
theorem tracked_congr {s t : State} (hrq : t.rq = s.rq) (hcq : t.cq = s.cq) (hbus : t.engine.bus = s.engine.bus)
    (hattn : t.attn = s.attn) : t.tracked = s.tracked := by
  simp only [State.tracked, hrq, hcq, hbus, hattn]

@[simp] theorem State.setResult_tracked (s : State) (r : Result) : (s.setResult r).tracked = s.tracked := rfl
@[simp] theorem State.setMem_tracked (s : State) (m : Memory) : (s.setMem m).tracked = s.tracked := rfl
@[simp] theorem State.setChannel_tracked (s : State) (c : Channel) (r : ChannelRec) :
    (s.setChannel c r).tracked = s.tracked := rfl
@[simp] theorem servedChannel_tracked (c : Channel) (s : State) : (servedChannel c s).tracked = s.tracked := rfl

theorem State.setBus_tracked (s : State) (b : Bus) : (s.setBus b).tracked = { s.tracked with onBus := b.requestTag } := rfl

@[simp] theorem workEnded_tracked (s : State) : (workEnded s).tracked = s.tracked :=
  tracked_congr (by simp) (by simp) (by simp) (by simp)
@[simp] theorem haltTrigger_tracked (s : State) : (haltTrigger s).tracked = s.tracked :=
  tracked_congr (by simp) (by simp) (by simp) (by simp)
@[simp] theorem writeFault_tracked (k : FaultKind) (n : Option Station) (s : State) : (writeFault k n s).tracked = s.tracked :=
  tracked_congr (by simp) (by simp) (by simp) (by simp)
@[simp] theorem writeCycleFault_tracked (o : CycleOutcome) (n : Option Station) (s : State) :
    (writeCycleFault o n s).tracked = s.tracked := tracked_congr (by simp) (by simp) (by simp) (by simp)
@[simp] theorem enterEnded_tracked (c : Channel) (x : Reason) (s : State) : (enterEnded c x s).tracked = s.tracked :=
  tracked_congr (by simp) (by simp) (by simp) (by simp)
@[simp] theorem enterFaulted_tracked (c : Channel) (x : Reason) (s : State) : (enterFaulted c x s).tracked = s.tracked :=
  tracked_congr (by simp) (by simp) (by simp) (by simp)
@[simp] theorem resumeOrStop_tracked (c : Channel) (lost : Bool) (s : State) : (resumeOrStop c lost s).tracked = s.tracked :=
  tracked_congr (by simp) (by simp) (by simp) (by simp)
@[simp] theorem finishCcb_tracked (c : Channel) (lost : Bool) (s : State) : (finishCcb c lost s).tracked = s.tracked :=
  tracked_congr (by simp) (by simp) (by simp) (by simp)
@[simp] theorem loadAccess_tracked (c : Channel) (l : LoadStep) (s : State) : (loadAccess c l s).tracked = s.tracked :=
  tracked_congr (by simp) (by simp) (by simp) (by simp)
@[simp] theorem channelsMeetReset_tracked (s : State) : (channelsMeetReset s).tracked = s.tracked :=
  tracked_congr (by simp) (by simp) (by simp) (by simp)

/-- The fresh flag is not tracked. -/
@[simp] theorem consumeFresh_tracked (k : Control) (s : State) : (consumeFresh k s).tracked = s.tracked := by
  unfold consumeFresh
  split <;> rfl

theorem endBusWork_tracked (s : State) : (endBusWork s).tracked = { s.tracked with onBus := none } := by
  simp [endBusWork, State.setBus_tracked, Bus.requestTag]

theorem tracked_noWork {s : State} (h : s.tracked.onBus = none) : { s.tracked with onBus := none } = s.tracked := by
  rw [← h]

/-- The work a channel releases is no request's. -/
@[simp] theorem releaseBus_tracked (c : Channel) (s : State) : (releaseBus c s).tracked = s.tracked := by
  unfold releaseBus
  split
  · next h =>
    rw [endBusWork_tracked]
    refine tracked_noWork ?_
    unfold ownsBus at h
    split at h
    · next w hb =>
      have ho : w.owner = .channel c := by simpa using h
      simp [State.tracked, hb, Bus.requestTag, ho]
    · cases h
    · cases h
  · rfl

@[simp] theorem channelAck_tracked (c : Channel) (s : State) : (channelAck c s).tracked = s.tracked := by
  unfold channelAck
  dsimp only
  split
  · rfl
  · split <;> simp

/-- A word's cycle begins for the channel that holds the bus. -/
@[simp] theorem beginWordCycle_tracked (c : Channel) (s : State) : (beginWordCycle c s).tracked = s.tracked := by
  unfold beginWordCycle
  split
  · next w _ k hb _ _ =>
    split
    · next ho => simp [State.tracked, Bus.requestTag, hb, ho]
    · rfl
  · rfl

/-- An event on the cycle in flight leaves the work with its owner. -/
theorem onCycle_tracked (f : BusWork → Cycle → Cycle) (s : State) : (onCycle f s).tracked = s.tracked := by
  unfold onCycle setCycle
  split
  · next w hb =>
    split
    · simp [State.tracked, Bus.requestTag, hb]
    · rfl
  all_goals rfl

theorem storeLocation_tracked (location : BitVec 5) (w : Word) (s : State) :
    (storeLocation location w s).tracked = s.tracked := by
  unfold storeLocation
  split <;> rfl

/-! ### The memory steps of a channel -/

theorem setBackoff_reaches {s₀ : State} (s : State) (n : Station) {k : Nat} (hk : ProfilesLegal s₀ → 1 ≤ k ∧ k ≤ 2040) :
    Reaches s₀ s (s.setBackoff n (some k)) := by
  refine .of_move (.runTimers (s.rq.backoff.set n (some k)) (fun hp hb => ?_) fun m hm => ?_) rfl
  · exact backoffInRange_set hb n fun j hj => Option.some.inj hj ▸ hk hp
  · rw [Fin.getElem_fin, Vector.getElem_set]
    split
    · rfl
    · exact hm

theorem handleChannelDefer_reaches (s₀ : State) (c : Channel) (elapsed : Nat) (lost : Bool) (s : State) :
    Reaches s₀ s (handleChannelDefer c elapsed lost s) := by
  unfold handleChannelDefer
  dsimp only
  split
  · exact .of_eq rfl
  · next k _ =>
    split
    · exact .of_eq (by simp)
    · split
      · exact .of_eq (by simp)
      · refine (setBackoff_reaches s k.station fun _ => ?_).congr rfl (resumeOrStop_tracked _ _ _)
        omega

theorem leaveMoving_reaches (s₀ : State) (c : Channel) (e : WordEnd) (s : State) : Reaches s₀ s (leaveMoving c e s) := by
  cases e with
  | fault x => exact .of_eq (by simp [leaveMoving])
  | defer elapsed => exact (handleChannelDefer_reaches s₀ c elapsed _ (releaseBus c s)).congr (by simp) rfl

theorem startRollback_reaches (s₀ : State) (c : Channel) (e : WordEnd) (s : State) : Reaches s₀ s (startRollback c e s) := by
  unfold startRollback
  dsimp only
  split
  · exact leaveMoving_reaches s₀ c e s
  · exact .of_eq rfl

theorem rangeCheck_reaches (s₀ : State) (c : Channel) (k : Control) (s : State) : Reaches s₀ s (rangeCheck c k s) := by
  unfold rangeCheck
  dsimp only
  split
  · exact startRollback_reaches s₀ c _ s
  · split
    · exact startRollback_reaches s₀ c _ s
    · exact .of_eq rfl

theorem channelOutcome_reaches (s₀ : State) (c : Channel) (o : CycleOutcome) (s : State) :
    Reaches s₀ s (channelOutcome c o s) := by
  cases o with
  | ack data =>
    simp only [channelOutcome]
    split
    · exact .of_eq rfl
    · split
      · exact .of_eq (channelAck_tracked c s)
      · exact .of_eq rfl
  | defer | noResponse | protocol | parity | busHang | cut => exact startRollback_reaches s₀ c _ s
  | answer | identifyParity => exact .of_eq rfl

theorem wordMeetsReset_reaches (s₀ : State) (c : Channel) (n : Option Station) (s : State) :
    Reaches s₀ s (wordMeetsReset c n s) := by
  unfold wordMeetsReset
  split
  case h_1 | h_2 | h_3 | h_4 | h_5 | h_6 | h_7 | h_8 => exact channelOutcome_reaches s₀ c .cut s
  case h_10 | h_11 => exact .of_eq (by simp)
  all_goals exact .of_eq rfl

/-! ### The Attention Controller -/

/-- A change of the Attention Controller's counters within their ranges is a move. -/
theorem Reaches.of_attention {s₀ s t : State} (hrq : t.rq = s.rq) (hcq : t.cq = s.cq) (hbus : t.engine.bus = s.engine.bus)
    (h : AttentionInRange s.attn.interval s.attn.emptyAnswers s.attn.timer →
      AttentionInRange t.attn.interval t.attn.emptyAnswers t.attn.timer) : Reaches s₀ s t := by
  refine .of_move (.attend t.attn.interval t.attn.emptyAnswers t.attn.timer h) ?_
  simp only [State.tracked, hrq, hcq, hbus]

/-- The interval timer starts in its range: 8 times an interval that is not 0. -/
theorem startIntervalTimer_inRange {s : State} (h : AttentionInRange s.attn.interval s.attn.emptyAnswers s.attn.timer) :
    AttentionInRange (startIntervalTimer s).attn.interval (startIntervalTimer s).attn.emptyAnswers
      (startIntervalTimer s).attn.timer := by
  obtain ⟨hi, he, -⟩ := h
  refine ⟨hi, he, ?_⟩
  have hpos : 0 < s.attn.interval.toNat := by
    refine Nat.pos_of_ne_zero fun h0 => hi ?_
    exact BitVec.eq_of_toNat_eq h0
  have hlt := s.attn.interval.isLt
  simp only [startIntervalTimer, IntervalTimer.legal, Bool.and_eq_true, decide_eq_true_eq]
  omega

theorem countEmptyAnswer_inRange {w : Word} {s : State} (h : AttentionInRange s.attn.interval s.attn.emptyAnswers s.attn.timer) :
    AttentionInRange (countEmptyAnswer w s).attn.interval (countEmptyAnswer w s).attn.emptyAnswers
      (countEmptyAnswer w s).attn.timer := by
  obtain ⟨hi, he, ht⟩ := h
  unfold countEmptyAnswer
  split
  · split
    · exact ⟨hi, Nat.zero_le _, ht⟩
    · split
      · rw [writeFault_attn]
        exact ⟨hi, Nat.zero_le _, ht⟩
      · exact ⟨hi, by dsimp only; omega, ht⟩
  · exact ⟨hi, he, ht⟩

theorem takeAnswer_reaches (s₀ : State) (w : Word) (s : State) : Reaches s₀ s (takeAnswer w s) := by
  refine .of_attention (by simp) (by simp) ?_ fun h => countEmptyAnswer_inRange (startIntervalTimer_inRange h)
  rw [takeAnswer_frame]

theorem takeIdentifyParity_reaches (s₀ : State) (s : State) : Reaches s₀ s (takeIdentifyParity s) :=
  .of_attention (by simp) (by simp) (by simp [takeIdentifyParity, startIntervalTimer]) fun h => by
    rw [takeIdentifyParity, writeFault_attn]
    exact startIntervalTimer_inRange h

theorem attentionOutcome_reaches (s₀ : State) (o : CycleOutcome) (s : State) : Reaches s₀ s (attentionOutcome o s) := by
  cases o with
  | answer w => exact takeAnswer_reaches s₀ w s
  | identifyParity => exact takeIdentifyParity_reaches s₀ s
  | ack | defer | noResponse | protocol | parity | busHang | cut => exact .of_eq rfl

theorem identifyMeetsReset_reaches (s₀ : State) (o : CycleOutcome) (s : State) : Reaches s₀ s (identifyMeetsReset o s) := by
  cases o with
  | answer w =>
    simp only [identifyMeetsReset]
    split
    · exact (takeAnswer_reaches s₀ w s).congr rfl rfl
    · exact .of_eq rfl
  | identifyParity => exact takeIdentifyParity_reaches s₀ s
  | ack | defer | noResponse | protocol | parity | busHang | cut => exact .of_eq rfl

end Sys2Proof.Machine
end

section
/-! PROOFS. Retirements, grants and the start of a bus reset as moves of what is tracked. -/

namespace Sys2Proof.Machine

/-! ### A request's outcome (R50 to R54) -/

/-- A retirement removes the record's tag from the queue and gives up one reservation. -/
theorem retire_tracked (r : Request) (st : Status) (d : Word) (s : State) : ∃ q, Leaves s.cq r.tag s.cq.reserved q ∧
    (retire r st d s).tracked = { s.tracked with rq := { s.rq with records := removeTag s.rq.records r.tag }, cq := q } := by
  have happend : ∃ q, Leaves s.cq r.tag s.cq.reserved q ∧ (appendCompletion r st d s).tracked =
      { s.tracked with rq := { s.rq with records := removeTag s.rq.records r.tag }, cq := q } :=
    ⟨_, .inr ⟨completionOf r st d, rfl, rfl⟩, rfl⟩
  unfold retire
  split
  · split
    · exact ⟨_, .inl rfl, rfl⟩
    · exact happend
  · rw [haltTrigger_tracked]
    exact happend

section
variable {s₀ s x : State} {t : Tag}

/-- The record of the work that has left the bus retires. -/
theorem retire_reaches {r : Request} (hr : r ∈ s.rq.records) (hb : s.tracked.onBus = some r.tag)
    (hx : x.tracked = { s.tracked with onBus := none }) {r' : Request} (ht : r'.tag = r.tag) (st : Status) (d : Word) :
    Reaches s₀ s (retire r' st d x) := by
  have hrq : x.rq = s.rq := congrArg Tracked.rq hx
  have hcq : x.cq = s.cq := congrArg Tracked.cq hx
  obtain ⟨q, hq, hret⟩ := retire_tracked r' st d x
  rw [hcq, ht] at hq
  rw [hrq, hx, ht] at hret
  exact .of_move (.retire r s.cq.reserved q hr (.inl ⟨hb, rfl⟩) hq) hret

/-- Its DEFER below the limit sends it back, with its station's timer started outside an interval (R52, R55, R60). -/
theorem deferRequest_reaches {r : Request} {n : Station} (hr : r ∈ s.rq.records) (hb : s.tracked.onBus = some r.tag)
    (hx : x.tracked = { s.tracked with onBus := none }) (hp : x.profiles = s₀.profiles) (hn : r.body.station = some n) :
    Reaches s₀ s (deferRequest r n x) := by
  unfold deferRequest
  dsimp only
  split
  · exact retire_reaches hr hb hx (r' := { r with defers := r.defers + 1 }) rfl .deferLimit 0
  · next hlimit =>
    have hd : r.defers + 1 ≤ 14 := by
      have := (x.profiles[n]).deferLimit.isLt
      omega
    have hback (st : RequestState) : (x.updateRequest { r with defers := r.defers + 1, state := st }).tracked =
        { s.tracked with
          rq := { s.rq with records := replaceRecord s.rq.records { r with defers := r.defers + 1, state := st } }
          onBus := none } := by
      have hrq : x.rq = s.rq := congrArg Tracked.rq hx
      have hupdate : (x.updateRequest { r with defers := r.defers + 1, state := st }).tracked =
          { x.tracked with
            rq := { x.rq with records := replaceRecord x.rq.records { r with defers := r.defers + 1, state := st } } } := rfl
      rw [hupdate, hrq, hx]
    split
    · exact .of_move (.defer r _ .waiting hr hb hd (.inl rfl)) (hback _)
    · have htimer : Reaches s₀ s (s.setBackoff n (some (8 * (x.profiles[n]).retryInterval.toNat))) := by
        refine setBackoff_reaches s n fun hlegal => ?_
        have hinterval := (x.profiles[n]).retryInterval.isLt
        have hretry : (x.profiles[n]).retryInterval.toNat ≠ 0 := by
          obtain ⟨-, -, -, -, hne, -⟩ := (legal_iff_inRanges _).mp (hlegal n)
          rw [hp]
          exact fun h0 => hne (BitVec.eq_of_toNat_eq h0)
        omega
      refine htimer.trans (.of_move (.defer r _ .backoff hr hb hd (.inr ⟨rfl, n, hn, ?_⟩)) ?_)
      · simp [State.tracked]
      · have h := hback .backoff
        have hset (y : State) (o : Option Nat) : (y.setBackoff n o).tracked =
            { y.tracked with rq := { y.tracked.rq with backoff := y.tracked.rq.backoff.set n o } } := rfl
        rw [hset, h, hset]
        rfl

/-- The outcome of its work ends what a request has on the bus. -/
theorem requestOutcome_reaches (hb : s.tracked.onBus = some t) (hx : x.tracked = { s.tracked with onBus := none })
    (hp : x.profiles = s₀.profiles) {o : CycleOutcome}
    (ho : cyclesFit s₀ = true → o ≠ .identifyParity ∧ ∀ a, o ≠ .answer a) : Reaches s₀ s (requestOutcome t o x) := by
  have hrq : x.rq = s.rq := congrArg Tracked.rq hx
  have dropped (hno : cyclesFit s₀ = true → engineLegal s₀ = true → ∀ t' r, s.tracked.onBus = some t' →
      s.tracked.rq.records.find? (fun x => x.tag = t') = some r → r.body.station = none) : Reaches s₀ s x :=
    .of_move (.dropWork hno) hx
  have hfind (r : Request) (hf : x.rq.records.find? (fun x => x.tag = t) = some r) :
      r ∈ s.rq.records ∧ s.tracked.onBus = some r.tag := by
    have ht : r.tag = t := by simpa using List.find?_some hf
    rw [ht, ← hrq]
    exact ⟨List.mem_of_find?_eq_some hf, hb⟩
  unfold requestOutcome
  split
  · next hf =>
    rw [hrq] at hf
    refine dropped fun _ _ t' r ht' hr => ?_
    obtain rfl : t = t' := Option.some.inj (hb.symm.trans ht')
    exact absurd (hf.symm.trans hr) nofun
  · next r hf =>
    obtain ⟨hr, hbr⟩ := hfind r hf
    cases o with
    | ack | noResponse | parity | protocol | busHang | cut => exact retire_reaches hr hbr hx rfl _ _
    | defer =>
      dsimp only
      split
      · next n hn => exact deferRequest_reaches hr hbr hx hp hn
      · next hn =>
        rw [hrq] at hf
        refine dropped fun _ _ t' r' ht' hr' => ?_
        obtain rfl : t = t' := Option.some.inj (hb.symm.trans ht')
        exact Option.some.inj (hf.symm.trans hr') ▸ hn
    | answer a => exact dropped fun hfit => absurd rfl ((ho hfit).2 a)
    | identifyParity => exact dropped fun hfit => absurd rfl (ho hfit).1

end

@[simp] theorem outcomeFits_identifyParity (k : CycleKind) :
    outcomeFits k .identifyParity = (k == .identify) := by cases k <;> rfl
@[simp] theorem outcomeFits_answer (k : CycleKind) (a : Word) :
    outcomeFits k (.answer a) = (k == .identify) := by cases k <;> rfl

/-- The outcomes of a fitting cycle of a request are none of an IDENTIFY's. -/
theorem request_outcome_of_fits {s : State} {w : BusWork} {c : Cycle} {t : Tag} {o : CycleOutcome} (hb : s.engine.bus = .cycle w)
    (hw : w.owner = .queue t) (hc : w.cycle = some c) (ho : c.phase = .ending o) (hfit : cyclesFit s = true) :
    o ≠ .identifyParity ∧ ∀ a, o ≠ .answer a := by
  obtain ⟨hwork, hcyc⟩ := (cyclesFit_cycle_iff hb).mp hfit
  have hk : w.kind ≠ .identify := by
    simp only [BusWork.fits, hw, Bool.and_eq_true] at hwork
    rintro hidentify
    rw [hidentify] at hwork
    cases hwork.1.1
  have hphase := (Cycle.fits_iff.mp (hcyc c hc)).1
  rw [ho] at hphase
  refine ⟨?_, fun a => ?_⟩
  · rintro rfl
    exact hk (by simpa [phaseFits] using hphase)
  · rintro rfl
    exact hk (by simpa [phaseFits] using hphase)

/-! ### The start of a bus reset (R104) -/

theorem interrupted_tracked (s : State) : s.interrupted.tracked = { s.tracked with onBus := none } := by
  simp [State.interrupted, State.setBus_tracked, resettingFrom, Bus.requestTag]

theorem interrupted_tracked_of_none {s : State} (h : s.tracked.onBus = none) : s.interrupted.tracked = s.tracked := by
  rw [interrupted_tracked, tracked_noWork h]

theorem tracked_onBus {s : State} {w : BusWork} (hb : s.engine.bus = .cycle w) :
    s.tracked.onBus = (Bus.cycle w).requestTag := congrArg Bus.requestTag hb

/-- The owner of the work a reset ends takes its outcome; a request has work on the bus only as the step begins. -/
theorem ownerMeetsReset_reaches {s₀ s : State} {w : BusWork} (hb : s.engine.bus = .cycle w)
    (h : s.tracked.onBus = none ∨ s = s₀) : Reaches s₀ s (ownerMeetsReset w s.interrupted) := by
  have hon := tracked_onBus hb
  have hstart {t : Tag} (hw : w.owner = .queue t) : s.tracked.onBus = some t ∧ s = s₀ := by
    have ht : s.tracked.onBus = some t := by simp [hon, Bus.requestTag, hw]
    exact ⟨ht, h.resolve_left fun hnone => nomatch hnone.symm.trans ht⟩
  have hother (hw : ∀ t, w.owner ≠ .queue t) : s.interrupted.tracked = s.tracked := by
    refine interrupted_tracked_of_none ?_
    rw [hon, Bus.requestTag]
    split
    · next t ht => exact absurd ht (hw t)
    all_goals rfl
  unfold ownerMeetsReset
  split
  · next t c hw hc =>
    obtain ⟨ht, rfl⟩ := hstart hw
    refine (requestOutcome_reaches ht (interrupted_tracked s) (interrupted_profiles s) fun hfit => ?_).congr rfl
      (writeCycleFault_tracked _ _ _)
    cases he : c.phase.isEnding with
    | false =>
      rw [outcomeAtReset_cut he]
      exact ⟨nofun, nofun⟩
    | true =>
      cases hx : c.phase with
      | ending o =>
        rw [outcomeAtReset_ending hx]
        exact request_outcome_of_fits hb hw hc hx hfit
      | select1 | select2 | response | turnaround | dataHigh | dataLow | pulse | sense | answer =>
        rw [hx] at he
        cases he
  · next c _ hw _ =>
    exact (channelOutcome_reaches s₀ c _ _).congr (hother (by simp [hw])).symm (writeCycleFault_tracked _ _ _)
  · next c hw _ => exact (wordMeetsReset_reaches s₀ c _ _).congr (hother (by simp [hw])).symm rfl
  · next hw _ => exact (identifyMeetsReset_reaches s₀ _ _).congr (hother (by simp [hw])).symm rfl
  · next t hw hc =>
    obtain ⟨ht, rfl⟩ := hstart hw
    refine .of_move (.dropWork fun hfit => ?_) (interrupted_tracked s)
    obtain ⟨hwork, -⟩ := (cyclesFit_cycle_iff hb).mp hfit
    simp [BusWork.fits, hw, hc] at hwork
  · next hw _ => exact .of_eq (hother (by simp [hw]))

/-- The queue's, the channels' and the Attention Controller's part in a bus reset. -/
theorem othersMeetReset_reaches (s₀ s : State) :
    Reaches s₀ s (clearAttention (channelsMeetReset (requestsMeetReset s))) := by
  have hqueue : Reaches s₀ s (requestsMeetReset s) := .of_move .busReset rfl
  refine hqueue.trans (Reaches.of_attention (by simp) (by simp) (by simp [clearAttention]) fun h => ?_)
  refine ⟨?_, Nat.zero_le _, rfl⟩
  have hi : (clearAttention (channelsMeetReset (requestsMeetReset s))).attn.interval =
      (channelsMeetReset (requestsMeetReset s)).attn.interval := rfl
  rw [hi, channelsMeetReset_attn]
  exact h.1

theorem startBusReset_reaches {s₀ s : State} (h : s.tracked.onBus = none ∨ s = s₀) : Reaches s₀ s (startBusReset s) := by
  unfold startBusReset
  dsimp only
  refine Reaches.trans ?_ (othersMeetReset_reaches s₀ _)
  split
  · next w hb => exact ownerMeetsReset_reaches hb h
  all_goals
    next hb => exact .of_eq (by simp [State.tracked, hb, Bus.requestTag, resettingFrom])

/-! ### Memory accesses (R113, R137) -/

theorem finishRollback_reaches (s₀ : State) (c : Channel) (e : WordEnd) (s : State) : Reaches s₀ s (finishRollback c e s) := by
  have hleave := leaveMoving_reaches s₀ c e s
  unfold finishRollback
  dsimp only
  split
  · next h =>
    have hidle : (leaveMoving c e s).engine.bus = .idle := by
      rw [leaveMoving_engine_bus, releaseBus, if_pos (Bool.and_eq_true_iff.mp h).1, endBusWork_engine_bus]
    refine (hleave.congr rfl (writeFault_tracked _ _ _)).trans (startBusReset_reaches (.inl ?_))
    simp [State.tracked, hidle, Bus.requestTag]
  · exact hleave

theorem wordAccess_reaches (s₀ : State) (c : Channel) (k : Control) (x : WordStep) (s : State) :
    Reaches s₀ s (wordAccess c k x s) := by
  cases x with
  | countRead | countWrite | outRead | ask | inCycle => exact .of_eq rfl
  | zeroAddrRead =>
    simp only [wordAccess]
    exact (startRollback_reaches s₀ c _ _).start rfl
  | addrRead =>
    simp only [wordAccess]
    split
    · exact (startRollback_reaches s₀ c _ _).start rfl
    · split
      · exact (rangeCheck_reaches s₀ c k _).start rfl
      · exact .of_eq rfl
  | addrWrite =>
    simp only [wordAccess]
    exact (rangeCheck_reaches s₀ c k _).start rfl
  | inWrite data => exact .of_eq (channelAck_tracked c _)
  | rollCount e =>
    simp only [wordAccess]
    split
    · exact (finishRollback_reaches s₀ c e _).start rfl
    · exact .of_eq rfl
  | rollAddr e =>
    simp only [wordAccess]
    exact (finishRollback_reaches s₀ c e _).start rfl

theorem channelAccess_reaches (s₀ : State) (c : Channel) (s : State) : Reaches s₀ s (channelAccess c s) := by
  unfold channelAccess
  dsimp only
  split
  · split
    · exact .of_eq (by simp)
    · split
      · exact (wordAccess_reaches s₀ c _ _ _).start rfl
      · exact .of_eq rfl
    all_goals exact .of_eq rfl
  · exact .of_eq rfl

theorem serveSlots_reaches (s₀ : State) (inStep : ChState → Bool) (x : Service) (s : State) :
    Reaches s₀ s (serveSlots inStep x.channel x.slots s) :=
  serveSlots_keeps (P := Reaches s₀ s) inStep x.channel x.slots (fun c t h => h.trans (channelAccess_reaches s₀ c t)) (.of_eq rfl)

theorem windowTurn_reaches (s₀ : State) (running : Bool) (s : State) : Reaches s₀ s (windowTurn running s) := by
  unfold windowTurn
  split
  · exact (channelAccess_reaches s₀ _ s).congr rfl rfl
  · exact .of_eq rfl

theorem readMdata_reaches (s₀ : State) (running : Bool) (s : State) : Reaches s₀ s (readMdata running s) := by
  unfold readMdata
  split
  · exact .of_eq rfl
  · exact (windowTurn_reaches s₀ running s).congr rfl rfl

theorem writeMdata_reaches (s₀ : State) (data : Word) (running : Bool) (s : State) :
    Reaches s₀ s (writeMdata data running s) := by
  unfold writeMdata
  split
  · exact .of_eq rfl
  · exact (windowTurn_reaches s₀ running s).congr rfl rfl

/-! ### The Engine's grants (R47 to R49, R90) -/

theorem activate_tracked (r : Request) (s : State) : (activate r s).tracked =
    { s.tracked with
      rq := { s.rq with records := replaceRecord s.rq.records { r with state := .active, reserved := true } }
      cq := { s.cq with reserved := reservedWith s.cq r } } := by
  unfold activate reservedWith
  dsimp only
  split <;> rfl

/-- The work of a granted request is its own, where it asks a station for a cycle. -/
theorem requestWork_owner {s : State} {r : Request} {w : BusWork} (h : requestWork s r = some w) :
    (Bus.cycle w).requestTag = some r.tag := by
  unfold requestWork at h
  dsimp only at h
  split at h
  case h_4 => cases h
  all_goals
    cases h
    rfl

/-- A request that names a station has work for the bus. -/
theorem requestWork_isSome {s : State} {r : Request} {n : Station} (h : r.body.station = some n) :
    (requestWork s r).isSome = true := by
  unfold requestWork
  dsimp only
  split
  case h_4 hf =>
    rw [hf] at h
    cases h
  all_goals rfl

theorem grantRequest_reaches {s₀ s : State} {r : Request} (hc : candidate s = some r) (hb : s.tracked.onBus = none) :
    Reaches s₀ s (grantRequest r s) := by
  obtain ⟨older, younger, hl, ⟨-, hcredit, hgo⟩, -⟩ := (candidate_some_iff s r).mp hc
  have hactive := activate_tracked r { s with engine := { s.engine with share := 0 } }
  unfold grantRequest
  dsimp only
  split
  · next st _ =>
    obtain ⟨q, hq, hret⟩ := retire_tracked { r with state := .active, reserved := true } st 0
      (activate r { s with engine := { s.engine with share := 0 } })
    have hrq := congrArg Tracked.rq hactive
    have hcq := congrArg Tracked.cq hactive
    dsimp only [State.tracked] at hrq hcq
    rw [hcq] at hq
    rw [hactive, hrq] at hret
    refine .of_move (.retire r (reservedWith s.cq r) q (hl ▸ List.mem_append_right _ List.mem_cons_self)
      (.inr ⟨hb, rfl, hcredit⟩) hq) (hret.trans ?_)
    have hremove := removeTag_replaceRecord s.rq.records { r with state := .active, reserved := true }
    dsimp only at hremove ⊢
    rw [hremove, ← hb]
    rfl
  · next hst =>
    obtain ⟨n, hn⟩ : ∃ n, r.body.station = some n := by
      cases hn : r.body.station with
      | none => simp [dispatchStatus, hn] at hst
      | some n => exact ⟨n, rfl⟩
    rw [hn] at hgo
    split
    · next w hw =>
      refine .of_move (.grant older younger r hl hb hcredit (by simp [hn]) fun x hx => ?_) ?_
      · rw [hn]
        exact hgo.1 x hx
      · rw [State.setBus_tracked, hactive, requestWork_owner hw]
        rfl
    · next hw =>
      have hsome := requestWork_isSome (s := s) (r := { r with state := .active, reserved := true }) hn
      rw [hw] at hsome
      cases hsome

theorem grantWord_tracked (c : Channel) {s : State} (hb : s.tracked.onBus = none) : (grantWord c s).tracked = s.tracked := by
  unfold grantWord
  dsimp only
  split
  · rfl
  · exact tracked_noWork hb

theorem grantShared_reaches {s₀ s : State} (hb : s.tracked.onBus = none) : Reaches s₀ s (grantShared s) := by
  unfold grantShared
  split
  · next hc _ => exact grantRequest_reaches hc hb
  · exact .of_eq (grantWord_tracked _ hb)
  · next hc _ =>
    split
    · exact .of_eq (grantWord_tracked _ hb)
    · exact grantRequest_reaches hc hb
  · exact .of_eq rfl

theorem grantIdentify_reaches {s₀ s : State} (hb : s.tracked.onBus = none) : Reaches s₀ s (grantIdentify s) := by
  refine .of_move (.attend s.attn.interval s.attn.emptyAnswers .stopped fun h => ⟨h.1, h.2.1, rfl⟩) ?_
  rw [← tracked_noWork hb]
  rfl

end Sys2Proof.Machine
end

section
/-! PROOFS. Every step is made of moves, and so keeps the laws of the timers, of the queues and of the request records. -/

namespace Sys2Proof.Machine

/-! ### The end of a cycle (R92) -/

/-- The outcome is delivered to the owner of the work that leaves the bus. -/
theorem deliver_reaches {s : State} {w : BusWork} {c : Cycle} {o : CycleOutcome} (hb : s.engine.bus = .cycle w)
    (hc : w.cycle = some c) (ho : c.phase = .ending o) : Reaches s s (deliver w o (takeDivider s)) := by
  have hon := tracked_onBus hb
  unfold deliver
  split
  · next t hw =>
    have ht : s.tracked.onBus = some t := by simp [hon, Bus.requestTag, hw]
    have hout : Reaches s s (requestOutcome t o (endBusWork (takeDivider s))) :=
      requestOutcome_reaches (s₀ := s) ht (endBusWork_tracked (takeDivider s)) (endBusWork_profiles (takeDivider s))
        (request_outcome_of_fits hb hw hc ho)
    unfold resetAfterHang
    split
    · refine (hout.congr rfl (writeCycleFault_tracked _ _ _)).trans (startBusReset_reaches (.inl ?_))
      simp [State.tracked, Bus.requestTag]
    · exact hout.congr rfl (writeCycleFault_tracked _ _ _)
  · next hw =>
    have hnone : s.tracked.onBus = none := by simp [hon, Bus.requestTag, hw]
    refine (attentionOutcome_reaches s o _).start ?_
    rw [endBusWork_tracked]
    exact (tracked_noWork hnone).symm
  · next c hw =>
    have hword : s.tracked = ((takeDivider s).setBus (.cycle { w with cycle := none })).tracked := by
      simp [State.tracked, takeDivider, hb, Bus.requestTag, hw]
    have hout := (channelOutcome_reaches s c o _).start hword
    dsimp only
    split
    · exact hout.congr rfl (writeFault_tracked _ _ _)
    · exact hout

/-! ### Commands and window writes -/

theorem windowCommand_reaches {s₀ s : State} {body : State → State} (h : Reaches s₀ s (body s)) :
    Reaches s₀ s (windowCommand body s) := by
  unfold windowCommand
  split
  · exact .of_eq rfl
  · exact h

theorem unlessInit_reaches {s₀ s : State} {write : State → State} (h : Reaches s₀ s (write s)) :
    Reaches s₀ s (unlessInit write s) := by
  unfold unlessInit
  split
  · exact .of_eq rfl
  · exact h

theorem postRequest_reaches (s₀ s : State) : Reaches s₀ s (postRequest s) := by
  unfold postRequest
  split
  · exact .of_eq rfl
  · next body _ =>
    dsimp only
    split
    · exact .of_eq rfl
    · next hfree =>
      split
      · exact .of_eq rfl
      · next hroom =>
        exact .of_move (.post { tag := s.port.sub.tag, body := body, state := .waiting, defers := 0, reserved := false }
          ⟨rfl, rfl, rfl⟩ (Bool.eq_false_iff.mpr hfree) (Nat.not_le.mp hroom)) rfl

theorem flushRequests_reaches (s₀ s : State) : Reaches s₀ s (flushRequests s) := .of_move .flush rfl

theorem popCompletion_reaches (s₀ s : State) : Reaches s₀ s (popCompletion s) := by
  unfold popCompletion
  split
  · exact .of_eq rfl
  · next c rest h => exact .of_move (.pop c rest h) rfl

theorem expireBackoff_reaches (s₀ : State) (n : Station) (s : State) : Reaches s₀ s (expireBackoff n s) := by
  unfold expireBackoff
  split
  · exact .of_eq rfl
  · exact .of_move (.expire n) rfl

/-- A soft reset ends the work on the bus with no outcome and resets the queues with it (R198). -/
theorem softReset_reaches (s₀ s : State) : Reaches s₀ s (softReset s) := .of_move .reset rfl

theorem clearRouted_tracked (x : Source) (s : State) : (clearRouted x s).tracked = s.tracked := by
  unfold clearRouted
  (repeat' split) <;> rfl

theorem applySense_tracked (x : Source) (s : State) : (applySense x s).tracked = s.tracked := by
  unfold applySense
  split <;> rfl

theorem applyProfile_tracked (s : State) : (applyProfile s).tracked = s.tracked := by
  unfold applyProfile disableStation
  dsimp only
  (repeat' split) <;> rfl

theorem applySource_tracked (s : State) : (applySource s).tracked = s.tracked := by
  unfold applySource
  split
  · rfl
  · split
    · rfl
    · split
      · rfl
      · refine (applySense_tracked _ _).trans ?_
        split
        · rfl
        · exact clearRouted_tracked _ s

theorem takePending_tracked (x : Source) (s : State) : (takePending x s).tracked = s.tracked := by
  unfold takePending
  (repeat' split) <;> rfl

theorem takeSource_tracked (s : State) : (takeSource s).tracked = s.tracked := by
  unfold takeSource
  split
  · rfl
  · split
    · rfl
    · exact takePending_tracked _ s

theorem performCommand_reaches (c : Instr) (s : State) : Reaches s s (performCommand c s) := by
  cases c with
  | flush => exact flushRequests_reaches s s
  | post => exact postRequest_reaches s s
  | pop => exact popCompletion_reaches s s
  | softReset => exact softReset_reaches s s
  | busReset =>
    simp only [performCommand, busResetCommand]
    split
    · exact .of_eq rfl
    · exact (startBusReset_reaches (.inr rfl)).congr rfl (State.setResult_tracked _ _)
  | profApply => exact .of_eq (applyProfile_tracked s)
  | srcApply => exact .of_eq (applySource_tracked s)
  | take => exact .of_eq (takeSource_tracked s)
  | stop | step =>
    simp only [performCommand, stopEngine, stepEngine]
    (repeat' split) <;> exact .of_eq rfl
  | profLoad | srcLoad | endService =>
    simp only [performCommand, loadProfile, loadSource, endSource]
    (repeat' split) <;> exact .of_eq rfl
  | arm | chStop | chAck =>
    simp only [performCommand, armChannel, stopChannel, ackChannel]
    (repeat' split) <;> exact .of_eq rfl
  | run | clearFault => exact .of_eq rfl
  | unknownCmd | mdataRead | mdataWrite | configWrite | attnCfgWrite | windowWrite | resetAssert | resetDeassert | clearSweepEnd
  | satnAssertion | satnDeassertion | dispatchChoice | responseWindowExpiry | holdLimitReached | cycleEnd | busResetIntervalEnd
  | dividerTakesEffect | identifyIntervalLapse | settlePeriodsBegin | backoffExpiry | ccbLoad | channelCountStep
  | channelAddressStep | channelDataStep | channelRollback | inDataWrite | stationResponse | byteTransfer | senseSample
  | answerCheckSample => exact .of_eq rfl

theorem writeCmd_reaches (w : Word) (s : State) : Reaches s s (writeCmd w s) := by
  unfold writeCmd
  split
  · exact performCommand_reaches _ s
  · exact .of_eq rfl

/-- ATTN_CFG stores no 0 (R153). -/
theorem storeInterval_reaches (s₀ : State) (w : Word) (s : State) : Reaches s₀ s (storeInterval w s) := by
  refine .of_attention rfl rfl rfl fun ⟨_, he, ht⟩ => ⟨?_, he, ht⟩
  simp only [storeInterval, intervalOfWord]
  split
  · decide
  · next h => exact h

theorem writeLocation_reaches (location : BitVec 5) (w : Word) (s : State) : Reaches s s (writeLocation location w s) := by
  unfold writeLocation
  split
  · exact windowCommand_reaches (writeCmd_reaches w s)
  · exact writeMdata_reaches s w false s
  · exact unlessInit_reaches (.of_eq rfl)
  · exact unlessInit_reaches (storeInterval_reaches s w s)
  · exact unlessInit_reaches (.of_eq (storeLocation_tracked location w s))

/-! ### The resets' own events and the periods -/

/-- An interval that ends, and the settle periods, leave no work on the bus, as there was none. -/
theorem endInterval_tracked (s : State) : (endInterval s).tracked = s.tracked := by
  unfold endInterval
  split
  · rfl
  · next hb _ => simp [State.tracked, takeDivider, hb, Bus.requestTag]
  · rfl
  · rfl

theorem beginSettle_tracked (s : State) : (beginSettle s).tracked = s.tracked := by
  unfold beginSettle
  split
  · rfl
  · next hb _ =>
    split
    · simp [State.tracked, hb, Bus.requestTag]
    · rfl
  · rfl
  · rfl

theorem assertReset_reaches (held : Nat) (s : State) : Reaches s s (assertReset held s) := by
  have htake : Reaches s s (takeReset held s) := by
    unfold takeReset
    split
    · exact .of_move .reset rfl
    · split
      · exact .of_move .reset rfl
      · exact .of_eq rfl
  unfold assertReset
  split
  · exact .of_eq rfl
  · exact htake
  · exact htake

/-- While RESET# is asserted a legal part has no bus work that its deassertion could take away (R107). -/
theorem deassertReset_reaches (s : State) : Reaches s s (deassertReset s) := by
  unfold deassertReset
  split
  · next hp =>
    refine .of_move (.dropWork fun _ hlegal t r ht => ?_) rfl
    have hbusy : s.busy = false := by
      simp only [engineLegal, State.inInit, hp, Bool.and_eq_true, Bool.not_true, Bool.false_or, Bool.not_eq_true'] at hlegal
      exact hlegal.1.2.2
    have hnone : s.tracked.onBus = none := by
      cases hb : s.engine.bus with
      | cycle w => simp [State.busy, hb] at hbusy
      | idle | resetting => simp [State.tracked, hb, Bus.requestTag]
    exact nomatch hnone.symm.trans ht
  · exact .of_eq rfl
  · exact .of_eq rfl

/-- A period leaves the work on the bus with its owner. -/
theorem busPeriod_requestTag (part : PartPhase) (b : Bus) : (busPeriod part b).requestTag = b.requestTag := by
  cases b with
  | idle | cycle => rfl
  | resetting k floating =>
    simp only [busPeriod]
    (repeat' split) <;> rfl

theorem intervalPeriod_legal (resetting : Bool) {t : IntervalTimer} (h : t.legal = true) :
    (intervalPeriod resetting t).legal = true := by
  cases t with
  | running n =>
    simp only [IntervalTimer.legal, Bool.and_eq_true, decide_eq_true_eq] at h
    simp only [intervalPeriod]
    split
    · next hn =>
      simp only [Bool.and_eq_true, decide_eq_true_eq] at hn
      simp only [IntervalTimer.legal, Bool.and_eq_true, decide_eq_true_eq]
      omega
    · simpa [IntervalTimer.legal] using h
  | stopped | lapsed => rfl

theorem backoffPeriod_isSome (resetting : Bool) (t : Option Nat) : (backoffPeriod resetting t).isSome = t.isSome := by
  unfold backoffPeriod
  split
  · rfl
  · exact Option.isSome_map

theorem backoffPeriod_inRange (resetting : Bool) {t : Option Nat} (h : ∀ k ∈ t, 1 ≤ k ∧ k ≤ 2040) :
    ∀ k ∈ backoffPeriod resetting t, 1 ≤ k ∧ k ≤ 2040 := by
  intro k hk
  unfold backoffPeriod at hk
  split at hk
  · exact h k hk
  · obtain ⟨j, hj, rfl⟩ := Option.map_eq_some_iff.mp hk
    have hrange := h j hj
    split <;> omega

/-- A period takes a timer from its range to its range: none goes below its last period. -/
theorem tick_reaches (s : State) : Reaches s s (tick s) := by
  have hbus : (tick s).engine.bus.requestTag = s.engine.bus.requestTag := busPeriod_requestTag s.part s.engine.bus
  have htimers : Reaches s s { s with rq := (tick s).rq } := by
    rw [tick_rq]
    refine .of_move (.runTimers _ (fun _ hb n k hk => ?_) fun n hn => ?_) rfl
    · rw [Fin.getElem_fin, Vector.getElem_ofFn] at hk
      exact backoffPeriod_inRange s.resetting (hb n) k hk
    · rw [Fin.getElem_fin, Vector.getElem_ofFn, backoffPeriod_isSome]
      exact hn
  refine htimers.trans (.of_move (.attend s.attn.interval s.attn.emptyAnswers (tick s).attn.timer fun ⟨hi, he, ht⟩ => ?_) ?_)
  · rw [tick_attn]
    exact ⟨hi, he, intervalPeriod_legal s.resetting ht⟩
  · simp only [State.tracked, hbus, tick_attn]
    rw [tick_frame]

/-! ### Every command and every step -/

theorem exec_reaches (i : Instr) (s : State) : ∃ t, exec i s = .next t ∧ Reaches s s t := by
  have command (c : Instr) : Reaches s s (windowCommand (performCommand c) s) :=
    windowCommand_reaches (performCommand_reaches c s)
  have event (f : BusWork → Cycle → Cycle) : Reaches s s (onCycle f s) := .of_eq (onCycle_tracked f s)
  cases i with
  | run | stop | step | flush | busReset | clearFault | softReset | post | pop | profApply | profLoad | srcApply | srcLoad
  | take | endService | arm | chStop | chAck => exact ⟨_, exec_command rfl s, command _⟩
  | unknownCmd w => exact ⟨_, rfl, windowCommand_reaches (writeCmd_reaches w s)⟩
  | mdataRead running => exact ⟨_, rfl, readMdata_reaches s running s⟩
  | mdataWrite data running => exact ⟨_, rfl, writeMdata_reaches s data running s⟩
  | configWrite => exact ⟨_, rfl, unlessInit_reaches (.of_eq rfl)⟩
  | attnCfgWrite w => exact ⟨_, rfl, unlessInit_reaches (storeInterval_reaches s w s)⟩
  | windowWrite location w => exact ⟨_, rfl, writeLocation_reaches location w s⟩
  | resetAssert held => exact ⟨_, rfl, assertReset_reaches held s⟩
  | resetDeassert => exact ⟨_, rfl, deassertReset_reaches s⟩
  | clearSweepEnd =>
    refine ⟨_, rfl, ?_⟩
    unfold endSweep
    split
    · exact .of_eq (endInterval_tracked s)
    · exact .of_eq rfl
    · exact .of_eq rfl
  | satnAssertion =>
    refine ⟨_, rfl, ?_⟩
    split <;> exact .of_eq rfl
  | satnDeassertion =>
    refine ⟨_, rfl, ?_⟩
    split
    · exact .of_attention rfl rfl rfl fun h => ⟨h.1, Nat.zero_le _, rfl⟩
    · exact .of_eq rfl
  | identifyIntervalLapse =>
    refine ⟨_, rfl, ?_⟩
    split
    · exact .of_attention rfl rfl rfl fun h => ⟨h.1, h.2.1, rfl⟩
    · exact .of_eq rfl
    · exact .of_eq rfl
  | dispatchChoice =>
    refine ⟨_, rfl, ?_⟩
    split
    · next h =>
      have hidle : s.engine.bus = .idle := ((mayChoose_iff s).mp h).2.1
      have hnone : s.tracked.onBus = none := by simp [State.tracked, hidle, Bus.requestTag]
      split
      · exact grantIdentify_reaches hnone
      · exact grantShared_reaches hnone
    · exact .of_eq rfl
  | responseWindowExpiry | holdLimitReached | stationResponse | byteTransfer | senseSample | answerCheckSample =>
    exact ⟨_, rfl, event _⟩
  | cycleEnd =>
    refine ⟨_, rfl, ?_⟩
    split
    · next w hb =>
      split
      · next c hc =>
        split
        · next o ho => exact deliver_reaches hb hc ho
        · exact .of_eq rfl
      · exact .of_eq rfl
    · exact .of_eq rfl
    · exact .of_eq rfl
  | backoffExpiry n => exact ⟨_, rfl, expireBackoff_reaches s n s⟩
  | busResetIntervalEnd => exact ⟨_, rfl, .of_eq (endInterval_tracked s)⟩
  | settlePeriodsBegin => exact ⟨_, rfl, .of_eq (beginSettle_tracked s)⟩
  | dividerTakesEffect =>
    refine ⟨_, rfl, ?_⟩
    unfold applyDivider
    split <;> exact .of_eq rfl
  | ccbLoad x => exact ⟨_, rfl, serveSlots_reaches s inLoad x s⟩
  | channelCountStep x => exact ⟨_, rfl, serveSlots_reaches s inCountStep x s⟩
  | channelAddressStep x => exact ⟨_, rfl, serveSlots_reaches s inAddressStep x s⟩
  | channelDataStep x =>
    exact ⟨_, rfl, (serveSlots_reaches s inOutRead x s).congr rfl (beginWordCycle_tracked _ _)⟩
  | channelRollback x => exact ⟨_, rfl, serveSlots_reaches s inRollback x s⟩
  | inDataWrite x => exact ⟨_, rfl, serveSlots_reaches s inDataWriteStep x s⟩

/-- A step is made of moves that start in its state, whose queue of commands no law reads. -/
theorem step_reaches {s t : State} (h : step s = .next t) : ∃ rest, Reaches { s with pending := rest } s t := by
  unfold step at h
  split at h
  · cases h
    exact ⟨s.pending, tick_reaches s⟩
  · next c rest _ =>
    obtain ⟨u, hu, hreach⟩ := exec_reaches c { s with pending := rest }
    rw [hu] at h
    cases h
    exact ⟨rest, hreach.start rfl⟩

/-- Settles O57: every move keeps the ranges, the start of a backoff timer by the legal profile it is taken from. -/
theorem timersStayLegal : Obligations.TimersStayLegal := by
  intro s t hs hp hstep
  obtain ⟨rest, hreach⟩ := step_reaches hstep
  rw [timersLegal_iff] at hs ⊢
  exact hreach.keeps (fun _ _ => Move.keeps_timers (s₀ := { s with pending := rest }) hp) hs

/-- Settles O58: every move keeps the accounting. -/
theorem queueLawKept : Obligations.QueueLawKept := by
  intro s t hs hstep
  obtain ⟨rest, hreach⟩ := step_reaches hstep
  rw [queueLaw_iff] at hs ⊢
  exact hreach.keeps (fun _ _ hmove => hmove.keeps_accounting) hs

/-- Settles O59: every move of a legal part keeps the accounting and with it the records' states. -/
theorem requestStatesKept : Obligations.RequestStatesKept := by
  intro s t hs hq hfit hlegal hstep
  obtain ⟨rest, hreach⟩ := step_reaches hstep
  rw [requestStates_iff] at hs ⊢
  rw [queueLaw_iff] at hq
  have hboth := hreach.keeps (P := fun v => v.Accounting ∧ v.StatesAgree)
    (fun _ _ hmove hv => ⟨hmove.keeps_accounting hv.1,
      Move.keeps_states (s₀ := { s with pending := rest }) hfit hlegal hmove hv.1 hv.2⟩) ⟨hq, hs⟩
  exact hboth.2

end Sys2Proof.Machine
end

section
/-! PROOFS. POST, FLUSH and the ends of the timers (R40, R41, R56, R58, R152). -/

namespace Sys2Proof.Machine

/-! ### FLUSH -/

/-- What FLUSH leaves is the ACTIVE record (R58). -/
theorem filter_not_flushable (l : List Request) : (l.filter fun r => !flushable r) = l.filter fun r => r.state = .active := by
  refine List.filter_congr fun r _ => ?_
  simp [flushable, bne, Bool.beq_eq_decide_eq]

theorem flushable_iff (r : Request) : flushable r = true ↔ r.state ≠ .active := bne_iff_ne

theorem length_flushable (l : List Request) :
    (l.filter flushable).length = l.length - (l.filter fun r => r.state = .active).length := by
  have h := l.length_eq_length_filter_add flushable
  rw [filter_not_flushable] at h
  omega

/-- Settles O17: the records removed are the flushable ones, and what they held goes with them. -/
theorem flushRemovesRecords : Obligations.FlushRemovesRecords := by
  refine fun s => ⟨exec_command_init rfl, fun hi => ⟨flushRequests s, exec_command_performed rfl hi, ?_, ?_, ?_, fun tag => ?_⟩⟩
  · rw [← filter_not_flushable]
    rfl
  · refine congrArg (BitVec.ofNat 16) ?_
    rw [length_flushable, ← filter_not_flushable]
    rfl
  · have hgone : (s.rq.records.filter flushable).filter Request.reserved =
        s.rq.records.filter fun r => r.state ≠ .active ∧ r.reserved = true := by
      rw [List.filter_filter]
      refine List.filter_congr fun r _ => ?_
      rw [Bool.eq_iff_iff, Bool.and_eq_true, decide_eq_true_iff, flushable_iff, and_comm]
    rw [← hgone]
    rfl
  · refine (freeTags_getElem _ s.cq.tags tag).trans (and_congr_right fun _ => ?_)
    simp only [List.mem_filter, flushable_iff, and_imp]

/-! ### POST -/

theorem stationOfNumber_iff {m : Nat} {n : Station} : Station.ofNumber m = some n ↔ n.number = m := by
  constructor
  · intro h
    unfold Station.ofNumber at h
    split at h
    · obtain rfl := Option.some.inj h
      simp only [Station.number]
      omega
    · cases h
  · rintro rfl
    exact ofNumber_stationNumber n

/-- What a kind with a station asks for. -/
theorem map_stationOfNumber_iff {m : Nat} {f : Station → RequestBody} {b : RequestBody} :
    (Station.ofNumber m).map f = some b ↔ ∃ n : Station, n.number = m ∧ b = f n := by
  simp only [Option.map_eq_some_iff, stationOfNumber_iff, eq_comm (a := b)]

/-- The staged fields ask for the body of their kind (R40, Table 3 of spec/03). -/
theorem submissionBody_iff (x : Submission) (b : RequestBody) : x.body = some b ↔ x.asksFor b := by
  have hkind (k : BitVec 3) : x.kind = k ↔ x.kind.toNat = k.toNat := BitVec.toNat_inj.symm
  unfold Submission.body Submission.asksFor
  simp only [hkind]
  split
  · next h =>
    rw [map_stationOfNumber_iff]
    simp [h]
  · next h =>
    rw [map_stationOfNumber_iff]
    simp [h]
  · next h =>
    split
    · next hmask => simp [h, hmask]
    · next hmask =>
      rw [map_stationOfNumber_iff]
      simp [h, hmask]
  · next h => simp [h, eq_comm]
  · next h1 h2 h3 h4 =>
    refine iff_of_false nofun ?_
    rintro (⟨h, -⟩ | ⟨h, -⟩ | ⟨h, -⟩ | ⟨h, -⟩)
    exacts [h1 h, h2 h, h3 h, h4 h]

theorem postRequest_badField {s : State} (h : ¬ ∃ b, s.port.sub.asksFor b) : postRequest s = s.answers .badField := by
  have hbody : s.port.sub.body = none := Option.eq_none_iff_forall_ne_some.mpr fun b hb => h ⟨b, (submissionBody_iff _ b).mp hb⟩
  simp only [postRequest, hbody]
  rfl

section
variable {s : State} {b : RequestBody}

theorem postRequest_tagBusy (hb : s.port.sub.asksFor b) (ht : s.cq.tags[s.port.sub.tag.toNat] = true) :
    postRequest s = s.answers .tagBusy := by
  simp only [postRequest, (submissionBody_iff _ b).mpr hb, ht, if_true]
  rfl

theorem postRequest_queueFull (hb : s.port.sub.asksFor b) (ht : s.cq.tags[s.port.sub.tag.toNat] = false)
    (hfull : 16 ≤ s.rq.records.length) : postRequest s = s.answers .queueFull := by
  simp only [postRequest, (submissionBody_iff _ b).mpr hb, ht, Config.requestDepth, hfull, if_true, Bool.false_eq_true, if_false]
  rfl

theorem postRequest_accepted (hb : s.port.sub.asksFor b) (ht : s.cq.tags[s.port.sub.tag.toNat] = false)
    (hroom : s.rq.records.length < 16) :
    postRequest s =
      { s with
        rq := { s.rq with
          records := s.rq.records ++ [{ tag := s.port.sub.tag, body := b, state := .waiting, defers := 0, reserved := false }] }
        cq := { s.cq with tags := s.cq.tags.set s.port.sub.tag.toNat true }
        port := { s.port with result := .ok } } := by
  simp only [postRequest, (submissionBody_iff _ b).mpr hb, ht, Config.requestDepth, Nat.not_le.mpr hroom, Bool.false_eq_true,
    if_false]
  rfl

end

/-- Settles O18: by the first check of POST that fails. -/
theorem postQueuesRequest : Obligations.PostQueuesRequest := by
  refine ⟨fun s => ⟨exec_command_init rfl, fun hi => ?_⟩, fun s b hi hb ht hroom => ?_⟩
  · have hexec : exec .post s = .next (postRequest s) := exec_command_performed rfl hi
    rw [hexec]
    exact ⟨fun h => congrArg _ (postRequest_badField h), fun b hb => ⟨fun ht => congrArg _ (postRequest_tagBusy hb ht),
      fun ht hfull => congrArg _ (postRequest_queueFull hb ht hfull)⟩⟩
  · have hexec : exec .post s = .next (postRequest s) := exec_command_performed rfl hi
    rw [hexec, postRequest_accepted hb ht hroom]

/-! ### The ends of the timers -/

theorem expireBackoff_running {s : State} {n : Station} {k : Nat} (h : s.rq.backoff[n] = some k) :
    expireBackoff n s =
      { s with
        rq := {
          records := s.rq.records.map fun r =>
            if r.state = .backoff ∧ r.body.station = some n then { r with state := .waiting } else r
          backoff := s.rq.backoff.set n none } } := by
  simp only [expireBackoff, h]
  rfl

theorem expireBackoff_stopped {s : State} {n : Station} (h : s.rq.backoff[n] = none) : expireBackoff n s = s := by
  simp only [expireBackoff, h]

/-- Settles O20: by whether the timer runs. -/
theorem timersExpire : Obligations.TimersExpire := by
  refine ⟨fun s n => ⟨fun k hk => congrArg Host.Outcome.next (expireBackoff_running hk),
    fun h => congrArg Host.Outcome.next (expireBackoff_stopped h)⟩, fun s => ⟨fun k hk => ?_, fun h => ?_⟩⟩
  · have hexec : exec .identifyIntervalLapse s = execIdentifyIntervalLapse s := rfl
    rw [hexec, execIdentifyIntervalLapse, hk]
  · have hexec : exec .identifyIntervalLapse s = execIdentifyIntervalLapse s := rfl
    rw [hexec, execIdentifyIntervalLapse]
    split
    · next k hk => exact absurd hk (h k)
    · rfl
    · rfl

end Sys2Proof.Machine
end

section
/-! PROOFS. The grant of a request and the end of its cycle (R47 to R55, R88, R90, R92, R98, R101, R102). -/

namespace Sys2Proof.Machine

/-! ### The choice of a request (R86, R88) -/

/-- With no IDENTIFY due a choice goes by the share rule. -/
theorem exec_dispatchChoice_shared {s : State} (hmay : mayDispatch s) (hdue : ¬ dueIdentify s) :
    exec .dispatchChoice s = .next (grantShared s) := by
  change Host.Outcome.next (if mayChoose s then (if identifyDue s then grantIdentify s else grantShared s) else s) = _
  rw [if_pos ((mayChoose_iff s).mpr hmay), if_neg (mt (identifyDue_iff s).mp hdue)]

/-- The queue's candidate is granted where no channel is offered, or the channels have had their share. -/
theorem grantShared_request {s : State} {r : Request} (hc : candidate s = some r)
    (hn : nextChannel s = none ∨ s.cfg.share.toNat + 1 ≤ s.engine.share) : grantShared s = grantRequest r s := by
  unfold grantShared
  rw [hc]
  cases hnext : nextChannel s with
  | none => rfl
  | some c =>
    have hshare : ¬ s.engine.share < shareLimit s := Nat.not_lt.mpr (hn.resolve_left (by simp [hnext]))
    exact if_neg hshare

/-! ### The granted record (R47, R48) -/

/-- The record holds its reservation, and the share counter is cleared. -/
def State.granted (s : State) (r : Request) : State :=
  { s with
    engine := { s.engine with share := 0 }
    cq := { s.cq with reserved := if r.reserved then s.cq.reserved else s.cq.reserved + 1 } }

/-- The record is ACTIVE besides. -/
theorem activate_eq (r : Request) (s : State) : activate r { s with engine := { s.engine with share := 0 } } =
    { s.granted r with
      rq := { s.rq with records := replaceRecord s.rq.records { r with state := .active, reserved := true } } } := by
  unfold activate State.granted
  dsimp only
  cases r.reserved <;> rfl

/-- A retirement at dispatch leaves no trace of the ACTIVE record. -/
theorem activate_retired (r : Request) (st : Status) (d : Word) (s : State) :
    (activate r { s with engine := { s.engine with share := 0 } }).retired { r with state := .active, reserved := true } st d =
      (s.granted r).retired r st d := by
  have hremove := removeTag_replaceRecord s.rq.records { r with state := .active, reserved := true }
  unfold removeTag at hremove
  rw [activate_eq]
  unfold State.retired
  dsimp only at hremove ⊢
  rw [hremove]
  rfl

section
variable {s : State} {r : Request}

/-- A granted request that retires at dispatch does so on an idle bus; its failure is a halt trigger (R48, R98). -/
theorem grantRequest_retires (hb : s.engine.bus = .idle) {st : Status} (hst : dispatchStatus s r = some st) :
    grantRequest r s = ((s.granted r).retired r st 0).toRun
      (runAfterTrigger (s.cfg.haltOnError && st != .ok) false s.engine.run) := by
  have hidle : (activate r { s with engine := { s.engine with share := 0 } }).busy = false := by
    rw [activate_eq]
    simp [State.busy, State.granted, hb]
  simp only [grantRequest, hst]
  rw [retire_eq, activate_retired, hidle, activate_eq]
  rfl

/-- The granted request's cycle stands in its first period. -/
def State.begun (s : State) (r : Request) (w : BusWork) : State :=
  { s.granted r with
    rq := { s.rq with records := replaceRecord s.rq.records { r with state := .active, reserved := true } }
    engine := { (s.granted r).engine with bus := .cycle w } }

/-- The granted request has retired with a status other than OK, a halt trigger on the idle bus (R48, R98). -/
def State.refused (s : State) (r : Request) (st : Status) : State :=
  ((s.granted r).retired r st 0).toRun (runAfterTrigger s.cfg.haltOnError false s.engine.run)

theorem grantRequest_begins {w : BusWork} (hst : dispatchStatus s r = none)
    (hw : requestWork s { r with state := .active, reserved := true } = some w) : grantRequest r s = s.begun r w := by
  simp only [grantRequest, hst, hw]
  rw [activate_eq]
  rfl

theorem grantRequest_fails (hb : s.engine.bus = .idle) {st : Status} (hst : dispatchStatus s r = some st) (hok : st ≠ .ok) :
    grantRequest r s = s.refused r st := by
  rw [grantRequest_retires hb hst, (bne_iff_ne (a := st)).mpr hok, Bool.and_true, State.refused]

/-- A FENCE retires OK. -/
theorem grantRequest_fence (hb : s.engine.bus = .idle) (hf : r.body = .fence) :
    grantRequest r s = (s.granted r).retired r .ok 0 := by
  have hst : dispatchStatus s r = some .ok := by simp [dispatchStatus, hf, RequestBody.station]
  have htrigger : (s.cfg.haltOnError && Status.ok != .ok) = false := Bool.and_false _
  have hself := toRun_self ((s.granted r).retired r .ok 0)
  rw [retired_engine] at hself
  rw [grantRequest_retires hb hst, htrigger, runAfterTrigger_false]
  exact hself

/-- A request to a station begins its cycle where the station is enabled and has the register (R31, R48). -/
theorem grantRequest_station {n : Station} {w : BusWork} (hb : s.engine.bus = .idle) (hn : r.body.station = some n)
    (hw : requestWork s { r with state := .active, reserved := true } = some w) :
    grantRequest r s =
      if (s.profiles[n]).enabled = false then s.refused r .stationOff
      else match r.body.offset with
        | some a => if (s.profiles[n]).registerCount.toNat ≤ a.toNat then s.refused r .range else s.begun r w
        | none => s.begun r w := by
  have hstatus : dispatchStatus s r = if (s.profiles[n]).enabled = false then some .stationOff
      else match r.body.offset with
        | some a => if (s.profiles[n]).registerCount.toNat ≤ a.toNat then some .range else none
        | none => none := by
    simp only [dispatchStatus, hn]
    cases r.body.offset <;> simp only [Bool.not_eq_true']
  split
  · next hoff => exact grantRequest_fails hb (hstatus.trans (if_pos hoff)) (by decide)
  · next hon =>
    rw [if_neg hon] at hstatus
    split
    · next a ha =>
      rw [ha] at hstatus
      split
      · next hrange => exact grantRequest_fails hb (hstatus.trans (if_pos hrange)) (by decide)
      · next hrange => exact grantRequest_begins (hstatus.trans (if_neg hrange)) hw
    · next ha =>
      rw [ha] at hstatus
      exact grantRequest_begins hstatus hw

end

/-- Settles O34: the request's kind decides which checks it meets at dispatch, and the work it begins. -/
theorem dispatchGrantsRequest : Obligations.DispatchGrantsRequest := by
  rintro s ⟨tag, body, state, defers, reserved⟩ hmay hdue hc hn
  have hb : s.engine.bus = .idle := hmay.2.1
  dsimp only
  rw [exec_dispatchChoice_shared hmay hdue, grantShared_request hc hn]
  refine congrArg Host.Outcome.next ?_
  cases body with
  | fence => exact grantRequest_fence hb rfl
  | write | read | control => exact grantRequest_station hb rfl rfl

/-! ### The end of a request's cycle (R50 to R53, R92) -/

/-- The state with its cycle over: the bus is idle and the written divider in effect. -/
def State.cycleOver (s : State) : State := { s with engine := { s.engine with bus := .idle, divider := s.cfg.divider } }

theorem endBusWork_takeDivider (s : State) :
    endBusWork (takeDivider s) = s.cycleOver.toRun (runAfterWork false s.engine.run) := workEnded_eq s.cycleOver

/-- A request that retires as its cycle is over halts the engine where its failure is a trigger. -/
theorem retire_cycleOver (s : State) (r : Request) (st : Status) (d : Word) : retire r st d (endBusWork (takeDivider s)) =
    (s.cycleOver.retired r st d).toRun (runAfterWork (s.cfg.haltOnError && st != .ok) s.engine.run) := by
  have hretired : (s.cycleOver.toRun (runAfterWork false s.engine.run)).retired r st d =
      (s.cycleOver.retired r st d).toRun (runAfterWork false s.engine.run) := by
    unfold State.retired
    split <;> rfl
  have htrigger : runAfterTrigger (s.cfg.haltOnError && st != .ok) false (runAfterWork false s.engine.run) =
      runAfterWork (s.cfg.haltOnError && st != .ok) s.engine.run := by
    rw [runAfterTrigger_runAfterWork, Bool.false_or]
  rw [endBusWork_takeDivider, retire_eq, hretired]
  refine (toRun_toRun (fun h => ?_) fun h => ?_).trans (congrArg _ htrigger)
  · have hrun : s.engine.run = .halted := (retired_run s.cycleOver r st d).symm.trans h
    rw [hrun, runAfterWork_halted]
  · change runAfterTrigger _ false (runAfterWork false s.engine.run) = .halted
    rw [h, runAfterTrigger_halted]

section
variable {s : State} {w : BusWork} {c : Cycle} {t : Tag} {r : Request}

/-- The outcome of a request's cycle goes to the queue, its fault to the record, and a hang starts a bus reset (R92, R102). -/
theorem exec_cycleEnd_request {o : CycleOutcome} (hb : s.engine.bus = .cycle w) (hw : w.owner = .queue t) (hc : w.cycle = some c)
    (ho : c.phase = .ending o) : exec .cycleEnd s = .next
      (resetAfterHang o (writeCycleFault o w.station (requestOutcome t o (endBusWork (takeDivider s))))) := by
  have hdeliver : exec .cycleEnd s = .next (deliver w o (takeDivider s)) := by
    simp only [exec, execCycleEnd, hb, hc, ho]
  rw [hdeliver, deliver, hw]

/-- The record found as the cycle is over is the one found before. -/
theorem find_cycleOver (hf : s.rq.records.find? (fun x => x.tag = t) = some r) :
    (endBusWork (takeDivider s)).rq.records.find? (fun x => x.tag = t) = some r := by
  rw [endBusWork_rq]
  exact hf

theorem cycleEnd_retires {o : CycleOutcome} {st : Status} {d : Word} (hf : s.rq.records.find? (fun x => x.tag = t) = some r)
    (hret : o.retires = some (st, d)) :
    writeCycleFault o w.station (requestOutcome t o (endBusWork (takeDivider s))) =
      (({ s.cycleOver with fault := o.faultRecord w.station s.fault } : State).retired r st d).toRun
        (runAfterWork (s.cfg.haltOnError && st != .ok) s.engine.run) := by
  rw [requestOutcome_retires (find_cycleOver hf) hret, retire_cycleOver, writeCycleFault_eq]
  unfold State.retired
  split <;> rfl

/-- On an idle bus a reset finds no work to end. -/
theorem startBusReset_idle {s : State} (hb : s.engine.bus = .idle) :
    startBusReset s = (s.busReset false).toRun (runAfterTrigger s.resetTriggers false s.engine.run) := by
  have hstart : startBusReset s =
      clearAttention (channelsMeetReset (requestsMeetReset (s.setBus (.resetting 1 false)))) := by
    simp only [startBusReset, hb, resettingFrom, pins]
    rfl
  rw [hstart, owners_meet_reset (f := false) rfl]
  rfl

/-- A hang's reset follows the end of its work with no choice between; the halts of both are one (R102, R98). -/
theorem startBusReset_afterWork {v : State} {a : Bool} (hb : v.engine.bus = .idle) :
    startBusReset (v.toRun (runAfterWork a v.engine.run)) =
      (v.busReset false).toRun (runAfterWork (a || v.resetTriggers) v.engine.run) := by
  rw [startBusReset_idle (s := v.toRun (runAfterWork a v.engine.run)) hb]
  change ((v.busReset false).toRun (runAfterWork a v.engine.run)).toRun
    (runAfterTrigger v.resetTriggers false (runAfterWork a v.engine.run)) = _
  rw [← runAfterTrigger_runAfterWork]
  refine toRun_toRun (fun h => ?_) fun h => ?_
  · have hrun : v.engine.run = .halted := h
    rw [hrun, runAfterWork_halted]
  · rw [h, runAfterTrigger_halted]

end

/-- The state a hung request's retirement leaves, the fault written, before the reset it starts (R102). -/
def State.hung (s : State) (r : Request) (w : BusWork) : State :=
  ({ s.cycleOver with fault := faultAfter s.fault .busHang w.station } : State).retired r .busHang 0

theorem State.hung_idle (s : State) (r : Request) (w : BusWork) : (s.hung r w).engine.bus = .idle := by
  rw [State.hung, retired_engine]
  rfl

theorem State.hung_run (s : State) (r : Request) (w : BusWork) : (s.hung r w).engine.run = s.engine.run :=
  retired_run _ _ _ _

theorem State.hung_resetTriggers (s : State) (r : Request) (w : BusWork) : (s.hung r w).resetTriggers = s.resetTriggers :=
  retired_resetTriggers _ _ _ _

/-- Settles O38: the outcome goes to the queue as the work leaves the bus, and its fault to the record. -/
theorem requestCycleRetires : Obligations.RequestCycleRetires := by
  intro s w c t r o st d hb hw hc ho hhang hf hret
  rw [exec_cycleEnd_request hb hw hc ho, resetAfterHang, if_neg hhang, cycleEnd_retires hf hret]
  rfl

/-- Settles O39: a DEFER by the station's limit, a hang by the reset it starts on the idle bus. -/
theorem requestDefersOrHangs : Obligations.RequestDefersOrHangs := by
  refine ⟨fun s w c t r n hb hw hc ho hf hn => ?_, fun s w c t r hb hw hc ho hf => ?_⟩
  · have hprofile : (endBusWork (takeDivider s)).profiles = s.profiles := endBusWork_profiles _
    have hexec : exec .cycleEnd s = .next (deferRequest r n (endBusWork (takeDivider s))) := by
      rw [exec_cycleEnd_request hb hw hc ho, requestOutcome_defer (find_cycleOver hf) hn]
      rfl
    dsimp only
    rw [hexec, deferRequest, hprofile]
    refine ⟨fun hlimit => ?_, fun hlimit => ?_⟩
    · have htrigger : (s.cfg.haltOnError && Status.deferLimit != .ok) = s.cfg.haltOnError := Bool.and_true _
      rw [if_pos hlimit, retire_cycleOver, htrigger]
      rfl
    · have htag : r.tag = t := by simpa using List.find?_some hf
      have hidle : (endBusWork (takeDivider s)).resetting = false := by simp [State.resetting]
      rw [if_neg (Nat.not_le.mpr hlimit), hidle, endBusWork_takeDivider, ← htag]
      rfl
  · have htrigger : (s.cfg.haltOnError && Status.busHang != .ok) = s.cfg.haltOnError := Bool.and_true _
    have hretired := cycleEnd_retires (w := w) (o := .busHang) hf rfl
    rw [htrigger] at hretired
    have hreset := startBusReset_afterWork (a := s.cfg.haltOnError) (s.hung_idle r w)
    rw [State.hung_run, State.hung_resetTriggers, haltOnError_or_resetTriggers] at hreset
    rw [exec_cycleEnd_request hb hw hc ho, resetAfterHang, if_pos rfl, hretired]
    refine congrArg Host.Outcome.next (hreset.trans ?_)
    rfl

end Sys2Proof.Machine
end

section
/-! PROOFS. The Completion Queue seen through the window and POP, with the other read-only locations: each shows its fields at
their places (R75 to R77, R124, R166, R180, R181, R189, R199, R202). -/

namespace Sys2Proof.Machine

/-! ### What a read of each location shows (R199) -/

theorem windowRead_status (s : State) : windowRead s 0x01#5 = statusWord s := by
  unfold windowRead
  split <;> rfl

/-- A location without a field reads 0000h, in INIT too (R117, R199). -/
theorem windowRead_unassigned {location : BitVec 5} (h : location = 0x1E#5 ∨ location = 0x1F#5) (s : State) :
    windowRead s location = 0x0000#16 := by
  obtain rfl | rfl := h <;> (unfold windowRead; split <;> rfl)

@[simp] theorem locationWord_id (s : State) : locationWord s 0x00#5 = 0x2140#16 := rfl
@[simp] theorem locationWord_cqHead (s : State) : locationWord s 0x09#5 = cqHeadWord s := rfl
@[simp] theorem locationWord_cqStatus (s : State) : locationWord s 0x0A#5 = cqStatusWord s := rfl
@[simp] theorem locationWord_cqData (s : State) : locationWord s 0x0B#5 = cqDataWord s := rfl
@[simp] theorem locationWord_srcState (s : State) : locationWord s 0x14#5 = srcStateWord s := rfl
@[simp] theorem locationWord_attn (s : State) : locationWord s 0x17#5 = attnWord s := rfl
@[simp] theorem locationWord_chStatus (s : State) : locationWord s 0x19#5 = chStatusWord s := rfl
@[simp] theorem locationWord_chCcb (s : State) : locationWord s 0x1A#5 = 0#4 ++ (s.channels[s.port.chSel]).ccb := rfl
@[simp] theorem locationWord_fault (s : State) : locationWord s 0x1B#5 = faultWord s := rfl

theorem locationWord_alert (s : State) (l : Line) : locationWord s (if l = 0 then 0x15#5 else 0x16#5) = alertWord s l :=
  match l with
  | 0 => rfl
  | 1 => rfl

/-! ### Numbers and codes in their fields -/

theorem stationNumber_le (n : Station) : n.number ≤ 15 := by
  unfold Station.number
  omega

theorem sourceNumber_le (x : Source) : x.number ≤ 19 := by
  unfold Source.number
  omega

theorem toNat_ofNat_of_lt {w n : Nat} (h : n < 2 ^ w) : (BitVec.ofNat w n).toNat = n := by
  rw [BitVec.toNat_ofNat, Nat.mod_eq_of_lt h]

theorem zero_append_toNat {w v : Nat} (x : BitVec w) : (0#v ++ x).toNat = x.toNat := by
  simp

/-- No station reads 0, which is no station's number. -/
theorem stationBits_toNat (n : Option Station) : (stationBits n).toNat = (n.map Station.number).getD 0 := by
  cases n with
  | none => rfl
  | some n => exact toNat_ofNat_of_lt (Nat.lt_succ_of_le (stationNumber_le n))

theorem routingCode_toNat (r : Routing) :
    r.code.toNat = match r with | .masked => 0 | .line l => 1 + l.val | .channel c => 4 + c.val := by
  cases r with
  | masked => rfl
  | line l => exact toNat_ofNat_of_lt (by omega)
  | channel c => exact toNat_ofNat_of_lt (by omega)

theorem kindCode_ne_zero (k : RequestKind) : k.code ≠ 0#3 := by cases k <;> decide

theorem statusCode_ne_none (st : Status) : st.code ≠ statusNone := by cases st <;> decide

/-! ### Words that are masks (R166, R180): one power of two for each bit set -/

/-- A sum of distinct powers of two has the bits of its exponents. -/
theorem testBit_foldl_two_pow {l : List Nat} (h : l.SortedLT) (i : Nat) :
    (l.foldl (fun acc p => acc + 2 ^ p) 0).testBit i = true ↔ i ∈ l := by
  have hsum : l.foldl (fun acc p => acc + 2 ^ p) 0 = (l.map fun p => 2 ^ p).sum := by
    rw [List.sum_eq_foldl, List.foldl_map]
  rw [hsum, ← Nat.mem_bitIndices, Nat.bitIndices_sum_map_two_pow h]

/-- The bits of ATTN that are set: bit 0 while SATN# is asserted, and the number of each station whose latest answer bit is. -/
def attnBits (s : State) : List Nat :=
  (if s.attn.satn then [0] else []) ++ ((List.finRange 15).filter fun n => (s.attn.stations[n]).answer).map Station.number

theorem attnWord_eq (s : State) : attnWord s = BitVec.ofNat 16 ((attnBits s).foldl (fun acc p => acc + 2 ^ p) 0) := by
  unfold attnWord attnBits
  rw [List.foldl_append, List.foldl_map, List.foldl_filter]
  cases s.attn.satn <;> rfl

theorem attnBits_sorted (s : State) : (attnBits s).SortedLT := by
  have hstations : (((List.finRange 15).filter fun n => (s.attn.stations[n]).answer).map Station.number).Pairwise (· < ·) :=
    (((List.sortedLT_finRange 15).pairwise).filter _).map _ fun m n h => Nat.succ_lt_succ h
  refine List.Pairwise.sortedLT (List.pairwise_append.mpr ⟨?_, hstations, fun b hb m hm => ?_⟩)
  · split <;> simp
  · obtain ⟨n, -, rfl⟩ := List.mem_map.mp hm
    have hzero : b = 0 := by
      split at hb
      · exact List.mem_singleton.mp hb
      · cases hb
    exact hzero ▸ Nat.succ_pos n

theorem attnWord_getLsbD (s : State) {i : Nat} (hi : i < 16) : (attnWord s).getLsbD i = true ↔ i ∈ attnBits s := by
  rw [attnWord_eq, BitVec.getLsbD_ofNat, decide_eq_true hi, Bool.true_and, testBit_foldl_two_pow (attnBits_sorted s)]

theorem attnWord_satn (s : State) : (attnWord s).getLsbD 0 = s.attn.satn := by
  rw [Bool.eq_iff_iff, attnWord_getLsbD s (by decide)]
  simp [attnBits, Station.number]

theorem attnWord_answer (s : State) (n : Station) : (attnWord s).getLsbD n.number = (s.attn.stations[n]).answer := by
  rw [Bool.eq_iff_iff, attnWord_getLsbD s (Nat.lt_succ_of_le (stationNumber_le n))]
  simp [attnBits, Station.number, Fin.val_inj]

theorem serviceMask_getLsbD (s : State) (l : Line) {p : Nat} (hp : p < 8) :
    (serviceMask s l).getLsbD p = true ↔ ∃ x : Source, inServiceOn s l x = true ∧ sourcePriority s x = p := by
  unfold serviceMask
  rw [BitVec.getLsbD_ofNat, decide_eq_true hp, Bool.true_and,
    testBit_foldl_two_pow ((List.pairwise_lt_range.filter _).sortedLT)]
  simp [hp]

/-! ### The fields of each word (Tables 5, 7, 8 and 10 of spec/11) -/

/-! A word of adjacent fields is taken apart field by field; its bits without a field are met by a mask cut the same way. -/

theorem statusWord_fields (s : State) :
    (statusWord s).getLsbD 15 = s.inInit ∧ (statusWord s).extractLsb' 13 2 = s.engine.run.code ∧
      (statusWord s).extractLsb' 11 2 = s.engine.bus.code ∧ (statusWord s).getLsbD 10 = s.fault.isSome ∧
      (statusWord s).extractLsb' 5 5 = BitVec.ofNat 5 s.rq.records.length ∧
      (statusWord s).extractLsb' 0 5 = BitVec.ofNat 5 s.cq.records.length := by
  simp only [statusWord, BitVec.getLsbD_append, BitVec.extractLsb'_append_eq_of_le, BitVec.extractLsb'_append_eq_of_add_le,
    BitVec.extractLsb'_eq_self, Nat.reduceLeDiff, Nat.reduceSub]
  simp

section
variable {s : State} {c : Completion} {rest : List Completion}

theorem cqHeadWord_cons (h : s.cq.records = c :: rest) :
    cqHeadWord s = stationBits c.station ++ 0#1 ++ c.kind.code ++ 0#2 ++ c.tag := by
  simp only [cqHeadWord, h]

theorem cqStatusWord_cons (h : s.cq.records = c :: rest) :
    cqStatusWord s = 0#4 ++ BitVec.ofNat 4 c.defers ++ 0#4 ++ c.status.code := by
  simp only [cqStatusWord, h]

theorem cqDataWord_cons (h : s.cq.records = c :: rest) : cqDataWord s = c.data := by
  simp only [cqDataWord, h]

theorem cqHeadWord_fields (h : s.cq.records = c :: rest) :
    (cqHeadWord s).extractLsb' 0 6 = c.tag ∧ (cqHeadWord s).extractLsb' 8 3 = c.kind.code ∧
      (cqHeadWord s).extractLsb' 12 4 = stationBits c.station := by
  simp only [cqHeadWord_cons h, BitVec.extractLsb'_append_eq_of_le, BitVec.extractLsb'_append_eq_of_add_le,
    BitVec.extractLsb'_eq_self, Nat.reduceLeDiff, Nat.reduceSub, and_self]

theorem cqHeadWord_gaps (h : s.cq.records = c :: rest) : cqHeadWord s &&& 0x08C0#16 = 0x0000#16 := by
  have hcut (n : BitVec 4) (k : BitVec 3) (t : Tag) :
      (n ++ 0#1 ++ k ++ 0#2 ++ t) &&& (0#4 ++ 1#1 ++ 0#3 ++ 3#2 ++ 0#6) = 0x0000#16 := by
    simp only [BitVec.and_append, BitVec.zero_and, BitVec.and_zero]
    rfl
  exact (congrArg (· &&& 0x08C0#16) (cqHeadWord_cons h)).trans (hcut ..)

theorem cqStatusWord_fields (h : s.cq.records = c :: rest) :
    (cqStatusWord s).extractLsb' 0 4 = c.status.code ∧ (cqStatusWord s).extractLsb' 8 4 = BitVec.ofNat 4 c.defers := by
  simp only [cqStatusWord_cons h, BitVec.extractLsb'_append_eq_of_le, BitVec.extractLsb'_append_eq_of_add_le,
    BitVec.extractLsb'_eq_self, Nat.reduceLeDiff, Nat.reduceSub, and_self]

theorem cqStatusWord_gaps (h : s.cq.records = c :: rest) : cqStatusWord s &&& 0xF0F0#16 = 0x0000#16 := by
  have hcut (d e : BitVec 4) : (0#4 ++ d ++ 0#4 ++ e) &&& (0xF#4 ++ 0#4 ++ 0xF#4 ++ 0#4) = 0x0000#16 := by
    simp only [BitVec.and_append, BitVec.zero_and, BitVec.and_zero]
    rfl
  exact (congrArg (· &&& 0xF0F0#16) (cqStatusWord_cons h)).trans (hcut ..)

end

/-- The head locations of an empty queue (R76). -/
theorem cqWords_empty {s : State} (h : s.cq.records = []) :
    cqHeadWord s = 0x0000#16 ∧ cqStatusWord s = 0x000F#16 ∧ cqDataWord s = 0x0000#16 := by
  simp only [cqHeadWord, cqStatusWord, cqDataWord, h]
  decide

theorem srcStateWord_noSource {s : State} (h : s.port.srcSel = 0#5 ∨ 19 < s.port.srcSel.toNat) :
    srcStateWord s = 0x0000#16 := by
  simp only [srcStateWord, ofNumber_noSource h]
  rfl

section
variable {s : State} {x : Source}

/-- A station source shows its station's fresh flag and latest answer; an internal source shows 0 for both (R181). -/
theorem srcStateWord_source (h : s.port.srcSel.toNat = x.number) :
    srcStateWord s = BitVec.ofBool (sourcePending s x) ++ BitVec.ofBool (inService s x) ++ 0#3 ++
      (s.alerts.config[x]).routing.code ++ 0#6 ++ BitVec.ofBool (x.station.any fun n => (s.attn.stations[n]).fresh) ++
      BitVec.ofBool (x.station.any fun n => (s.attn.stations[n]).answer) := by
  simp only [srcStateWord, h, ofNumber_sourceNumber]
  cases x.station <;> rfl

theorem srcStateWord_fields (h : s.port.srcSel.toNat = x.number) :
    (srcStateWord s).getLsbD 15 = sourcePending s x ∧ (srcStateWord s).getLsbD 14 = inService s x ∧
      (srcStateWord s).extractLsb' 8 3 = (s.alerts.config[x]).routing.code ∧
      (srcStateWord s).getLsbD 1 = (x.station.any fun n => (s.attn.stations[n]).fresh) ∧
      (srcStateWord s).getLsbD 0 = (x.station.any fun n => (s.attn.stations[n]).answer) := by
  simp only [srcStateWord_source h, BitVec.getLsbD_append, BitVec.extractLsb'_append_eq_of_le,
    BitVec.extractLsb'_append_eq_of_add_le, BitVec.extractLsb'_eq_self, Nat.reduceLeDiff, Nat.reduceSub]
  simp

theorem srcStateWord_gaps (h : s.port.srcSel.toNat = x.number) : srcStateWord s &&& 0x38FC#16 = 0x0000#16 := by
  have hcut (a b e f : BitVec 1) (r : BitVec 3) :
      (a ++ b ++ 0#3 ++ r ++ 0#6 ++ e ++ f) &&& (0#1 ++ 0#1 ++ 7#3 ++ 0#3 ++ 0x3F#6 ++ 0#1 ++ 0#1) = 0x0000#16 := by
    simp only [BitVec.and_append, BitVec.zero_and, BitVec.and_zero]
    rfl
  exact (congrArg (· &&& 0x38FC#16) (srcStateWord_source h)).trans (hcut ..)

end

theorem inService_iff (s : State) (x : Source) : inService s x = true ↔ ∃ l : Line, inServiceOn s l x = true := by
  rw [inService, Bool.or_eq_true, Fin.exists_fin_two]

theorem alertWord_eq (s : State) (l : Line) :
    alertWord s l = 0#3 ++ BitVec.ofNat 5 (((presented s l).map Source.number).getD 0) ++ serviceMask s l := by
  unfold alertWord
  cases presented s l <;> rfl

theorem alertWord_source (s : State) (l : Line) :
    ((alertWord s l).extractLsb' 8 5).toNat = ((presented s l).map Source.number).getD 0 := by
  have hfield : (alertWord s l).extractLsb' 8 5 = BitVec.ofNat 5 (((presented s l).map Source.number).getD 0) := by
    simp only [alertWord_eq, BitVec.extractLsb'_append_eq_of_le, BitVec.extractLsb'_append_eq_of_add_le,
      BitVec.extractLsb'_eq_self, Nat.reduceLeDiff, Nat.reduceSub]
  rw [hfield]
  cases presented s l with
  | none => rfl
  | some x => exact toNat_ofNat_of_lt (Nat.lt_of_le_of_lt (sourceNumber_le x) (by decide))

theorem alertWord_mask (s : State) (l : Line) {p : Nat} (hp : p < 8) :
    (alertWord s l).getLsbD p = true ↔ ∃ x : Source, inServiceOn s l x = true ∧ sourcePriority s x = p := by
  rw [← serviceMask_getLsbD s l hp, alertWord_eq, BitVec.getLsbD_append, if_pos hp]

theorem alertWord_gaps (s : State) (l : Line) : alertWord s l &&& 0xE000#16 = 0x0000#16 := by
  have hcut (n : BitVec 5) (m : BitVec 8) : (0#3 ++ n ++ m) &&& (7#3 ++ 0#5 ++ 0#8) = 0x0000#16 := by
    simp only [BitVec.and_append, BitVec.zero_and, BitVec.and_zero]
    rfl
  exact (congrArg (· &&& 0xE000#16) (alertWord_eq s l)).trans (hcut ..)

theorem chStatusWord_fields (s : State) :
    (chStatusWord s).getLsbD 15 = (s.channels[s.port.chSel]).endFlag ∧
      (chStatusWord s).extractLsb' 12 3 = (s.channels[s.port.chSel]).state.code ∧
      (chStatusWord s).extractLsb' 8 4 = (s.channels[s.port.chSel]).reason.code := by
  simp only [chStatusWord, BitVec.getLsbD_append, BitVec.extractLsb'_append_eq_of_le, BitVec.extractLsb'_append_eq_of_add_le,
    BitVec.extractLsb'_eq_self, Nat.reduceLeDiff, Nat.reduceSub]
  simp

theorem chStatusWord_low (s : State) :
    (chStatusWord s).extractLsb' 0 8 = 0#4 ++ BitVec.ofNat 4 (s.channels[s.port.chSel]).defers := by
  refine BitVec.eq_of_getLsbD_eq fun i hi => ?_
  simp only [chStatusWord, BitVec.getLsbD_extractLsb', BitVec.getLsbD_append]
  interval_cases i <;> simp

theorem faultWord_some {s : State} {f : FaultEntry} (h : s.fault = some f) :
    faultWord s = 1#1 ++ BitVec.ofBool f.more ++ 0#3 ++ f.kind.code ++ 0#4 ++ stationBits f.station := by
  simp only [faultWord, h]

theorem faultWord_fields {s : State} {f : FaultEntry} (h : s.fault = some f) :
    (faultWord s).getLsbD 15 = true ∧ (faultWord s).getLsbD 14 = f.more ∧ (faultWord s).extractLsb' 8 3 = f.kind.code ∧
      (faultWord s).extractLsb' 0 4 = stationBits f.station := by
  simp only [faultWord_some h, BitVec.getLsbD_append, BitVec.extractLsb'_append_eq_of_le,
    BitVec.extractLsb'_append_eq_of_add_le, BitVec.extractLsb'_eq_self, Nat.reduceLeDiff, Nat.reduceSub]
  simp

theorem faultWord_gaps {s : State} {f : FaultEntry} (h : s.fault = some f) : faultWord s &&& 0x38F0#16 = 0x0000#16 := by
  have hcut (m : BitVec 1) (k : BitVec 3) (n : BitVec 4) :
      (1#1 ++ m ++ 0#3 ++ k ++ 0#4 ++ n) &&& (0#1 ++ 0#1 ++ 7#3 ++ 0#3 ++ 0xF#4 ++ 0#4) = 0x0000#16 := by
    simp only [BitVec.and_append, BitVec.zero_and, BitVec.and_zero]
    rfl
  exact (congrArg (· &&& 0x38F0#16) (faultWord_some h)).trans (hcut ..)

/-! ### The statements -/

/-- Settles O8: each location's word is cut into its fields, and each field is its code or number. -/
theorem statusAndHeadFields : Obligations.StatusAndHeadFields := by
  refine ⟨fun s => ⟨windowRead_unassigned (.inl rfl) s, windowRead_unassigned (.inr rfl) s,
      fun hi => windowRead_running hi 0x00#5⟩,
    fun s hrq hcq => ?status, fun s r rest hi hr hd => ?head, fun s hi => ?resultAndAttn, fun s hi => ?source,
    fun s l hi => ?alert, fun s hi => ?channel, fun s hi => ?fault⟩
  case status =>
    obtain ⟨hinit, hrun, hbus, hfault, hrqField, hcqField⟩ := statusWord_fields s
    rw [windowRead_status]
    refine ⟨hinit, hrun.trans ?_, hbus.trans ?_, hfault, ?_, ?_⟩
    · cases s.engine.run <;> rfl
    · cases s.engine.bus <;> rfl
    · rw [hrqField, toNat_ofNat_of_lt (by omega)]
    · rw [hcqField, toNat_ofNat_of_lt (by omega)]
  case head =>
    obtain ⟨htag, hkind, hstation⟩ := cqHeadWord_fields hr
    obtain ⟨hstatus, hdefers⟩ := cqStatusWord_fields hr
    simp only [windowRead_running hi, locationWord_cqHead, locationWord_cqStatus, locationWord_cqData]
    refine ⟨cqHeadWord_gaps hr, cqStatusWord_gaps hr, htag, hkind.trans ?_, ?_, ?_, ?_, cqDataWord_cons hr⟩
    · cases r.kind <;> rfl
    · rw [hstation, stationBits_toNat]
    · rw [hstatus]
      cases r.status <;> rfl
    · rw [hdefers, toNat_ofNat_of_lt (by omega)]
  case resultAndAttn =>
    simp only [windowRead_running hi, locationWord_result, locationWord_attn]
    refine ⟨?_, attnWord_satn s, attnWord_answer s⟩
    cases s.port.result <;> rfl
  case source =>
    simp only [windowRead_running hi, locationWord_srcState]
    refine ⟨srcStateWord_noSource, fun x hx => ?_⟩
    obtain ⟨hpending, hservice, hrouting, hfresh, hanswer⟩ := srcStateWord_fields hx
    refine ⟨srcStateWord_gaps hx, hpending, hservice ▸ inService_iff s x, ?_, hfresh.trans ?_, hanswer.trans ?_⟩
    · exact (congrArg BitVec.toNat hrouting).trans (routingCode_toNat _)
    · cases x.station <;> rfl
    · cases x.station <;> rfl
  case alert =>
    simp only [windowRead_running hi, locationWord_alert]
    exact ⟨alertWord_gaps s l, alertWord_source s l, fun p hp => alertWord_mask s l hp⟩
  case channel =>
    obtain ⟨hend, hstate, hreason⟩ := chStatusWord_fields s
    simp only [windowRead_running hi, locationWord_chStatus, locationWord_chCcb]
    refine ⟨fun hd => ?_, hend, ?_, ?_, zero_append_toNat _⟩
    · rw [chStatusWord_low, zero_append_toNat, toNat_ofNat_of_lt (by omega)]
    · rw [hstate]
      cases (s.channels[s.port.chSel]).state <;> rfl
    · rw [hreason]
      cases (s.channels[s.port.chSel]).reason <;> rfl
  case fault =>
    simp only [windowRead_running hi, locationWord_fault]
    refine ⟨fun h => ?_, fun f hf => ?_⟩
    · simp only [faultWord, h]
      rfl
    · obtain ⟨hvalid, hmore, hkind, hstation⟩ := faultWord_fields hf
      refine ⟨faultWord_gaps hf, hvalid, hmore, ?_, ?_⟩
      · rw [hkind]
        cases f.kind <;> rfl
      · rw [hstation, stationBits_toNat]

/-- Settles O9: no record has the kind code 0 or the status code NONE. -/
theorem emptyHeadReads : Obligations.EmptyHeadReads := by
  refine ⟨fun s hi hempty => ?_, fun s r rest hi hr => ?_⟩
  · obtain ⟨hhead, hstatus, hdata⟩ := cqWords_empty hempty
    obtain ⟨-, -, -, -, -, hcount⟩ := statusWord_fields s
    rw [windowRead_status, hcount, hempty]
    simp only [windowRead_running hi, locationWord_cqHead, locationWord_cqStatus, locationWord_cqData]
    exact ⟨hhead, hstatus, hdata, rfl⟩
  · obtain ⟨-, hkind, -⟩ := cqHeadWord_fields hr
    obtain ⟨hstatus, -⟩ := cqStatusWord_fields hr
    simp only [windowRead_running hi, locationWord_cqHead, locationWord_cqStatus, hkind, hstatus]
    exact ⟨kindCode_ne_zero r.kind, statusCode_ne_none r.status⟩

/-! ### POP (R77) -/

theorem popCompletion_empty {s : State} (h : s.cq.records = []) : popCompletion s = s.answers .empty := by
  simp only [popCompletion, h]
  rfl

theorem popCompletion_cons {s : State} {r : Completion} {rest : List Completion} (h : s.cq.records = r :: rest) :
    popCompletion s =
      { s with
        cq := { s.cq with records := rest, tags := s.cq.tags.set r.tag.toNat false }
        port := { s.port with result := .ok } } := by
  simp only [popCompletion, h]
  rfl

/-- Settles O19: by whether the queue holds a record. -/
theorem popRemovesHead : Obligations.PopRemovesHead := by
  refine fun s => ⟨exec_command_init rfl, fun hi => ?_⟩
  have hexec : exec .pop s = .next (popCompletion s) := exec_command_performed rfl hi
  rw [hexec]
  exact ⟨fun h => congrArg _ (popCompletion_empty h), fun r rest h => congrArg _ (popCompletion_cons h)⟩

end Sys2Proof.Machine
end

section
/-! PROOFS. The Engine's law (R83, R88, R95, R107) under the operations every block shares: halt triggers, the end of bus work,
retirements, the ends of a channel's word and the start of a bus reset. -/

namespace Sys2Proof.Machine

/-! ### What the law says of each bus state -/

theorem engineLegal_iff (s : State) : engineLegal s = true ↔
    s.engine.share ≤ 8 ∧ (s.engine.run = .stopping → s.busy = true) ∧
      (s.inInit = true → s.engine.run = .halted ∧ s.busy = false) ∧
        ∀ k f, s.engine.bus = .resetting k f → 1 ≤ k ∧ k ≤ 64 := by
  have hstop : (s.engine.run != .stopping || s.busy) = true ↔ (s.engine.run = .stopping → s.busy = true) := by
    cases s.engine.run <;> simp
  have hinit : (!s.inInit || (s.engine.run == .halted && !s.busy)) = true ↔
      (s.inInit = true → s.engine.run = .halted ∧ s.busy = false) := by
    cases s.inInit <;> simp
  unfold engineLegal
  rw [Bool.and_eq_true, Bool.and_eq_true, Bool.and_eq_true, decide_eq_true_iff, hstop, hinit, and_assoc, and_assoc]
  refine and_congr_right fun _ => and_congr_right fun _ => and_congr_right fun _ => ?_
  split
  · next k f hb =>
    rw [Bool.and_eq_true, decide_eq_true_iff, decide_eq_true_iff]
    refine ⟨fun h i g hi => ?_, fun h => h k f hb⟩
    cases hb.symm.trans hi
    exact h
  all_goals
    next hb => exact iff_of_true rfl fun k f h => nomatch hb.symm.trans h

/-- With bus work in flight the part is not in INIT, and every run state is legal. -/
theorem engineLegal_cycle_iff {s : State} {w : BusWork} (hb : s.engine.bus = .cycle w) :
    engineLegal s = true ↔ s.engine.share ≤ 8 ∧ s.inInit = false := by
  simp [engineLegal_iff, State.busy, hb]

/-- With no bus work in flight the Engine is not STOPPING. -/
theorem engineLegal_offBus_iff {s : State} (hb : s.busy = false) :
    engineLegal s = true ↔ s.engine.share ≤ 8 ∧ s.engine.run ≠ .stopping ∧ (s.inInit = true → s.engine.run = .halted) ∧
      ∀ k f, s.engine.bus = .resetting k f → 1 ≤ k ∧ k ≤ 64 := by
  simp [engineLegal_iff, hb]

/-- The law reads the run state, the bus state, the share counter and the phase of the part. -/
theorem engineLegal_congr {s t : State} (hshare : t.engine.share = s.engine.share) (hrun : t.engine.run = s.engine.run)
    (hbus : t.engine.bus = s.engine.bus) (hpart : t.part = s.part) : engineLegal t = engineLegal s := by
  unfold engineLegal State.busy State.inInit
  rw [hshare, hrun, hbus, hpart]

/-! ### Run state (R93, R95, R98) -/

/-- The Engine may enter a run state but STOPPING off the bus, and in INIT none but HALTED. -/
theorem toRun_engineLegal {s : State} {r : RunState} (hs : engineLegal s = true) (hstop : r = .stopping → s.busy = true)
    (hinit : s.inInit = true → r = .halted) : engineLegal (s.toRun r) = true := by
  obtain ⟨hshare, -, hidle, hperiod⟩ := (engineLegal_iff s).mp hs
  exact (engineLegal_iff _).mpr ⟨hshare, hstop, fun hi => ⟨hinit hi, (hidle hi).2⟩, hperiod⟩

/-- In INIT a legal Engine is HALTED. -/
theorem run_of_inInit {s : State} (hs : engineLegal s = true) (hi : s.inInit = true) : s.engine.run = .halted :=
  (((engineLegal_iff s).mp hs).2.2.1 hi).1

theorem enterHalted_engineLegal {s : State} (hs : engineLegal s = true) : engineLegal (enterHalted s) = true :=
  (engineLegal_congr rfl rfl rfl rfl).trans (toRun_engineLegal hs nofun fun _ => rfl)

/-- No halt trigger off the bus leads to STOPPING. -/
theorem runAfterTrigger_ne_stopping (trigger : Bool) {r : RunState} (h : r ≠ .stopping) :
    runAfterTrigger trigger false r ≠ .stopping := by
  cases r with
  | stopping => exact absurd rfl h
  | running | stepping | halted => cases trigger <;> decide

theorem haltTrigger_engineLegal {s : State} (hs : engineLegal s = true) : engineLegal (haltTrigger s) = true := by
  rw [haltTrigger_eq]
  refine toRun_engineLegal hs (fun h => ?_) fun hi => ?_
  · cases hbusy : s.busy with
    | true => rfl
    | false =>
      rw [hbusy] at h
      obtain ⟨-, hstop, -⟩ := (engineLegal_offBus_iff hbusy).mp hs
      exact absurd h (runAfterTrigger_ne_stopping _ hstop)
  · rw [run_of_inInit hs hi, runAfterTrigger_halted]

/-- The run state follows the end of bus work, whether the bus goes idle or an interval begins. -/
theorem workEnded_engineLegal {s : State} {b : Bus} (hs : engineLegal s = true) (hb : b = .idle ∨ ∃ f, b = .resetting 1 f) :
    engineLegal (workEnded (s.setBus b)) = true := by
  obtain ⟨hshare, -⟩ := (engineLegal_iff s).mp hs
  have hbusy : (s.setBus b).busy = false := by
    obtain rfl | ⟨f, rfl⟩ := hb <;> rfl
  rw [workEnded_eq]
  refine (engineLegal_offBus_iff (s := (s.setBus b).toRun (runAfterWork false s.engine.run)) hbusy).mpr ⟨hshare, ?_, fun hi => ?_, ?_⟩
  · change runAfterWork false s.engine.run ≠ .stopping
    cases s.engine.run <;> decide
  · change runAfterWork false s.engine.run = .halted
    rw [run_of_inInit hs hi, runAfterWork_halted]
  · rintro k f (hk : b = _)
    obtain rfl | ⟨f, rfl⟩ := hb <;> cases hk
    decide

theorem endBusWork_engineLegal {s : State} (hs : engineLegal s = true) : engineLegal (endBusWork s) = true :=
  workEnded_engineLegal hs (.inl rfl)

theorem interrupted_engineLegal {s : State} (hs : engineLegal s = true) : engineLegal s.interrupted = true :=
  workEnded_engineLegal hs (.inr ⟨_, rfl⟩)

/-! ### Faults and requests (R50 to R54, R98, R185) -/

theorem writeFault_engineLegal (k : FaultKind) (n : Option Station) (s : State) :
    engineLegal (writeFault k n s) = engineLegal s := by
  rw [writeFault_eq]
  rfl

theorem writeCycleFault_engineLegal (o : CycleOutcome) (n : Option Station) (s : State) :
    engineLegal (writeCycleFault o n s) = engineLegal s := by
  rw [writeCycleFault_eq]
  rfl

theorem retire_engineLegal (r : Request) (st : Status) (d : Word) {s : State} (hs : engineLegal s = true) :
    engineLegal (retire r st d s) = true := by
  unfold retire
  split
  · split <;> exact hs
  · exact haltTrigger_engineLegal hs

theorem deferRequest_engineLegal (r : Request) (n : Station) {s : State} (hs : engineLegal s = true) :
    engineLegal (deferRequest r n s) = true := by
  unfold deferRequest
  dsimp only
  split
  · exact retire_engineLegal _ _ _ hs
  · split <;> exact hs

theorem requestOutcome_engineLegal (t : Tag) (o : CycleOutcome) {s : State} (hs : engineLegal s = true) :
    engineLegal (requestOutcome t o s) = true := by
  unfold requestOutcome
  split
  · exact hs
  · cases o with
    | ack | noResponse | parity | protocol | busHang | cut => exact retire_engineLegal _ _ _ hs
    | defer =>
      dsimp only
      split
      · exact deferRequest_engineLegal _ _ hs
      · exact hs
    | answer | identifyParity => exact hs

/-! ### The ends of a channel's word (R93, R134 to R143) -/

theorem enterFaulted_engineLegal (c : Channel) (x : Reason) {s : State} (hs : engineLegal s = true) :
    engineLegal (enterFaulted c x s) = true :=
  haltTrigger_engineLegal hs

theorem resumeOrStop_engineLegal (c : Channel) (lost : Bool) {s : State} (hs : engineLegal s = true) :
    engineLegal (resumeOrStop c lost s) = true := by
  unfold resumeOrStop
  dsimp only
  split
  · exact hs
  · split
    · exact enterFaulted_engineLegal c _ hs
    · exact hs

theorem handleChannelDefer_engineLegal (c : Channel) (elapsed : Nat) (lost : Bool) {s : State} (hs : engineLegal s = true) :
    engineLegal (handleChannelDefer c elapsed lost s) = true := by
  unfold handleChannelDefer
  dsimp only
  split
  · exact hs
  · split
    · exact enterFaulted_engineLegal c _ hs
    · split <;> exact resumeOrStop_engineLegal c _ hs

theorem releaseBus_engineLegal (c : Channel) {s : State} (hs : engineLegal s = true) : engineLegal (releaseBus c s) = true := by
  unfold releaseBus
  split
  · exact endBusWork_engineLegal hs
  · exact hs

theorem leaveMoving_engineLegal (c : Channel) (e : WordEnd) {s : State} (hs : engineLegal s = true) :
    engineLegal (leaveMoving c e s) = true := by
  cases e with
  | fault x => exact enterFaulted_engineLegal c x (releaseBus_engineLegal c hs)
  | defer elapsed => exact handleChannelDefer_engineLegal c elapsed _ (releaseBus_engineLegal c hs)

theorem startRollback_engineLegal (c : Channel) (e : WordEnd) {s : State} (hs : engineLegal s = true) :
    engineLegal (startRollback c e s) = true := by
  unfold startRollback
  dsimp only
  split
  · exact leaveMoving_engineLegal c e hs
  · exact hs

theorem finishCcb_engineLegal (c : Channel) (lost : Bool) {s : State} (hs : engineLegal s = true) :
    engineLegal (finishCcb c lost s) = true := by
  unfold finishCcb
  dsimp only
  split
  · split
    · exact enterFaulted_engineLegal c _ hs
    · split
      · exact enterFaulted_engineLegal c _ hs
      · exact hs
  · exact hs

theorem channelAck_engineLegal (c : Channel) {s : State} (hs : engineLegal s = true) : engineLegal (channelAck c s) = true := by
  unfold channelAck
  dsimp only
  split
  · exact hs
  · next k _ =>
    have hfresh : engineLegal (consumeFresh k (s.setChannel c { s.channels[c] with defers := 0 })) = true := by
      unfold consumeFresh
      split <;> exact hs
    split
    · exact finishCcb_engineLegal c _ (releaseBus_engineLegal c hfresh)
    · exact resumeOrStop_engineLegal c _ (releaseBus_engineLegal c hfresh)

theorem channelOutcome_engineLegal (c : Channel) (o : CycleOutcome) {s : State} (hs : engineLegal s = true) :
    engineLegal (channelOutcome c o s) = true := by
  cases o with
  | ack data =>
    simp only [channelOutcome]
    split
    · exact hs
    · split
      · exact channelAck_engineLegal c hs
      · exact hs
  | defer | noResponse | protocol | parity | busHang | cut => exact startRollback_engineLegal c _ hs
  | answer | identifyParity => exact hs

/-! ### The start of a bus reset (R104) -/

theorem wordMeetsReset_engineLegal (c : Channel) (n : Option Station) {s : State} (hs : engineLegal s = true) :
    engineLegal (wordMeetsReset c n s) = true := by
  unfold wordMeetsReset
  split
  case h_1 | h_2 | h_3 | h_4 | h_5 | h_6 | h_7 | h_8 => exact channelOutcome_engineLegal c .cut hs
  case h_10 | h_11 => exact (writeFault_engineLegal _ _ s).trans hs
  all_goals exact hs

theorem ownerMeetsReset_engineLegal (w : BusWork) {s : State} (hs : engineLegal s = true) :
    engineLegal (ownerMeetsReset w s) = true := by
  unfold ownerMeetsReset
  split
  · exact (writeCycleFault_engineLegal _ _ _).trans (requestOutcome_engineLegal _ _ hs)
  · exact (writeCycleFault_engineLegal _ _ _).trans (channelOutcome_engineLegal _ _ hs)
  · exact wordMeetsReset_engineLegal _ _ hs
  · exact (engineLegal_congr (by simp) (by simp) (by simp) (by simp)).trans hs
  · exact hs
  · exact hs

theorem channelMeetsReset_engineLegal (c : Channel) {s : State} (hs : engineLegal s = true) :
    engineLegal (channelMeetsReset c s) = true := by
  unfold channelMeetsReset
  split
  case h_1 | h_2 => exact enterFaulted_engineLegal c _ hs
  all_goals exact hs

theorem channelsMeetReset_engineLegal {s : State} (hs : engineLegal s = true) : engineLegal (channelsMeetReset s) = true :=
  channelMeetsReset_engineLegal 3 (channelMeetsReset_engineLegal 2 (channelMeetsReset_engineLegal 1
    (channelMeetsReset_engineLegal 0 hs)))

/-- An interval may begin, and go on in its periods 1 to 64, where no bus work is in flight. -/
theorem setBus_resetting_engineLegal {s : State} {k : Nat} (f : Bool) (hk : 1 ≤ k ∧ k ≤ 64) (hs : engineLegal s = true)
    (hb : s.busy = false) : engineLegal (s.setBus (.resetting k f)) = true := by
  obtain ⟨hshare, hrun, hinit, -⟩ := (engineLegal_offBus_iff hb).mp hs
  refine (engineLegal_offBus_iff rfl).mpr ⟨hshare, hrun, hinit, ?_⟩
  rintro i g ⟨⟩
  exact hk

theorem startBusReset_engineLegal {s : State} (hs : engineLegal s = true) : engineLegal (startBusReset s) = true := by
  unfold startBusReset
  dsimp only
  refine channelsMeetReset_engineLegal (s := requestsMeetReset _) ?_
  split
  · next w _ => exact ownerMeetsReset_engineLegal w (interrupted_engineLegal hs)
  all_goals
    next hb => exact setBus_resetting_engineLegal _ (by decide) hs (by simp [State.busy, hb])

end Sys2Proof.Machine
end

section
/-! PROOFS. Every command and every period keeps the Engine's law. -/

namespace Sys2Proof.Machine

/-! ### Memory accesses (R113, R126 to R137) -/

theorem rangeCheck_engineLegal (c : Channel) (k : Control) {s : State} (hs : engineLegal s = true) :
    engineLegal (rangeCheck c k s) = true := by
  unfold rangeCheck
  dsimp only
  split
  · exact startRollback_engineLegal c _ hs
  · split
    · exact startRollback_engineLegal c _ hs
    · exact hs

theorem finishRollback_engineLegal (c : Channel) (e : WordEnd) {s : State} (hs : engineLegal s = true) :
    engineLegal (finishRollback c e s) = true := by
  unfold finishRollback
  dsimp only
  split
  · exact startBusReset_engineLegal ((writeFault_engineLegal _ _ _).trans (leaveMoving_engineLegal c e hs))
  · exact leaveMoving_engineLegal c e hs

theorem wordAccess_engineLegal (c : Channel) (k : Control) (x : WordStep) {s : State} (hs : engineLegal s = true) :
    engineLegal (wordAccess c k x s) = true := by
  cases x with
  | countRead | countWrite | outRead | ask | inCycle => exact hs
  | zeroAddrRead => exact startRollback_engineLegal c _ hs
  | addrRead =>
    simp only [wordAccess]
    split
    · exact startRollback_engineLegal c _ hs
    · split
      · exact rangeCheck_engineLegal c k hs
      · exact hs
  | addrWrite => exact rangeCheck_engineLegal c k hs
  | inWrite data => exact channelAck_engineLegal c hs
  | rollCount e =>
    simp only [wordAccess]
    split
    · exact finishRollback_engineLegal c e hs
    · exact hs
  | rollAddr e => exact finishRollback_engineLegal c e hs

theorem loadAccess_engineLegal (c : Channel) (l : LoadStep) {s : State} (hs : engineLegal s = true) :
    engineLegal (loadAccess c l s) = true := by
  cases l with
  | control | count => exact hs
  | link control count =>
    simp only [loadAccess, finishLoad]
    split
    · exact enterFaulted_engineLegal c _ hs
    · exact resumeOrStop_engineLegal c false hs

theorem channelAccess_engineLegal (c : Channel) {s : State} (hs : engineLegal s = true) :
    engineLegal (channelAccess c s) = true := by
  unfold channelAccess
  dsimp only
  split
  · split
    · exact loadAccess_engineLegal c _ hs
    · split
      · exact wordAccess_engineLegal c _ _ hs
      · exact hs
    all_goals exact hs
  · exact hs

theorem serveSlots_engineLegal (inStep : ChState → Bool) (x : Service) {s : State} (hs : engineLegal s = true) :
    engineLegal (serveSlots inStep x.channel x.slots s) = true :=
  serveSlots_keeps (P := fun t => engineLegal t = true) inStep x.channel x.slots (fun c _ => channelAccess_engineLegal c) hs

theorem windowTurn_engineLegal (running : Bool) {s : State} (hs : engineLegal s = true) :
    engineLegal (windowTurn running s) = true := by
  unfold windowTurn
  split
  · exact channelAccess_engineLegal _ hs
  · exact hs

/-! ### Bus work begun and gone on (R86 to R92) -/

/-- A word's cycle begins with the bus work in flight already. -/
theorem beginWordCycle_engineLegal (c : Channel) {s : State} (hs : engineLegal s = true) :
    engineLegal (beginWordCycle c s) = true := by
  unfold beginWordCycle
  split
  · next hb _ _ =>
    split
    · exact (engineLegal_cycle_iff rfl).mpr ((engineLegal_cycle_iff hb).mp hs)
    · exact hs
  · exact hs

theorem onCycle_engineLegal (f : BusWork → Cycle → Cycle) {s : State} (hs : engineLegal s = true) :
    engineLegal (onCycle f s) = true := by
  unfold onCycle
  split
  · next hb =>
    split
    · exact (engineLegal_cycle_iff rfl).mpr ((engineLegal_cycle_iff hb).mp hs)
    · exact hs
  · exact hs
  · exact hs

theorem grantWord_engineLegal (c : Channel) {s : State} (hs : engineLegal s = true) (hi : s.inInit = false) :
    engineLegal (grantWord c s) = true := by
  obtain ⟨hshare, -⟩ := (engineLegal_iff s).mp hs
  unfold grantWord
  dsimp only
  split
  · exact hs
  · exact (engineLegal_cycle_iff rfl).mpr ⟨hshare, hi⟩

/-- The share counter may take any value of SHARE's range (R88, R100). -/
theorem engineLegal_share {s : State} {n : Nat} (hs : engineLegal s = true) (hn : n ≤ 8) :
    engineLegal { s with engine := { s.engine with share := n } } = true := by
  obtain ⟨-, hrest⟩ := (engineLegal_iff s).mp hs
  exact (engineLegal_iff _).mpr ⟨hn, hrest⟩

theorem activate_engineLegal (r : Request) (s : State) : engineLegal (activate r s) = engineLegal s := by
  unfold activate
  dsimp only
  split <;> rfl

theorem activate_inInit (r : Request) (s : State) : (activate r s).inInit = s.inInit := by
  unfold activate
  dsimp only
  split <;> rfl

theorem grantRequest_engineLegal (r : Request) {s : State} (hs : engineLegal s = true) (hi : s.inInit = false) :
    engineLegal (grantRequest r s) = true := by
  have hactive : engineLegal (activate r { s with engine := { s.engine with share := 0 } }) = true :=
    (activate_engineLegal _ _).trans (engineLegal_share hs (Nat.zero_le 8))
  unfold grantRequest
  dsimp only
  split
  · exact retire_engineLegal _ _ _ hactive
  · split
    · obtain ⟨hshare, -⟩ := (engineLegal_iff _).mp hactive
      exact (engineLegal_cycle_iff rfl).mpr ⟨hshare, (activate_inInit _ _).trans hi⟩
    · exact hactive

/-- The share counter rises only below SHARE, which is at most 8. -/
theorem grantShared_engineLegal {s : State} (hs : engineLegal s = true) (hi : s.inInit = false) :
    engineLegal (grantShared s) = true := by
  unfold grantShared
  split
  · exact grantRequest_engineLegal _ hs hi
  · exact grantWord_engineLegal _ hs hi
  · split
    · next hlt =>
      have hlimit : shareLimit s ≤ 8 := s.cfg.share.isLt
      exact grantWord_engineLegal _ (engineLegal_share hs (hlt.trans_le hlimit)) hi
    · exact grantRequest_engineLegal _ hs hi
  · exact hs

theorem deliver_engineLegal {w : BusWork} (o : CycleOutcome) {s : State} (hb : s.engine.bus = .cycle w)
    (hs : engineLegal s = true) : engineLegal (deliver w o s) = true := by
  have hended := endBusWork_engineLegal hs
  unfold deliver
  split
  · next t _ =>
    have hout := (writeCycleFault_engineLegal o w.station _).trans (requestOutcome_engineLegal t o hended)
    unfold resetAfterHang
    split
    · exact startBusReset_engineLegal hout
    · exact hout
  · exact (engineLegal_congr (by simp) (by simp) (by simp) (by simp)).trans hended
  · next c _ =>
    have hword : engineLegal (s.setBus (.cycle { w with cycle := none })) = true :=
      (engineLegal_cycle_iff rfl).mpr ((engineLegal_cycle_iff hb).mp hs)
    have hout := channelOutcome_engineLegal c o hword
    dsimp only
    split
    · exact (writeFault_engineLegal _ _ _).trans hout
    · exact hout

/-! ### Commands and window writes -/

theorem unlessInit_engineLegal {write : State → State} {s : State} (hw : engineLegal (write s) = engineLegal s)
    (hs : engineLegal s = true) : engineLegal (unlessInit write s) = true := by
  unfold unlessInit
  split
  · exact hs
  · exact hw.trans hs

/-- In INIT a command is not performed. -/
theorem windowCommand_engineLegal {body : State → State} {s : State} (hs : engineLegal s = true)
    (hb : s.inInit = false → engineLegal (body s) = true) : engineLegal (windowCommand body s) = true := by
  cases hi : s.inInit with
  | true =>
    rw [windowCommand_init body hi]
    exact hs
  | false =>
    rw [windowCommand_performed body hi]
    exact hb hi

theorem setResult_engineLegal (s : State) (r : Result) : engineLegal (s.setResult r) = engineLegal s := rfl

theorem stopEngine_engineLegal {s : State} (hs : engineLegal s = true) (hi : s.inInit = false) :
    engineLegal (stopEngine s) = true := by
  have hstops : engineLegal (if s.busy then s.setRun .stopping else enterHalted s) = true := by
    split
    · next hbusy =>
      rw [setRun_eq_toRun (by decide)]
      exact toRun_engineLegal hs (fun _ => hbusy) fun h => nomatch hi.symm.trans h
    · exact enterHalted_engineLegal hs
  unfold stopEngine
  split
  · exact hstops
  · exact hstops
  · exact hs
  · exact hs

theorem stepEngine_engineLegal {s : State} (hs : engineLegal s = true) (hi : s.inInit = false) :
    engineLegal (stepEngine s) = true := by
  unfold stepEngine
  split
  · rw [setRun_eq_toRun (by decide)]
    exact toRun_engineLegal hs nofun fun h => nomatch hi.symm.trans h
  all_goals exact hs

theorem runEngine_engineLegal {s : State} (hs : engineLegal s = true) (hi : s.inInit = false) :
    engineLegal (runEngine s) = true := by
  unfold runEngine
  rw [setRun_eq_toRun (by decide)]
  exact toRun_engineLegal hs nofun fun h => nomatch hi.symm.trans h

/-- A reset of the blocks leaves a halted Engine in the first period of an interval. -/
theorem engineLegal_of_reset {s : State} {f : Bool} (h : s.engine = { Engine.reset with bus := .resetting 1 f }) :
    engineLegal s = true := by
  refine (engineLegal_offBus_iff (by simp [State.busy, h])).mpr ?_
  rw [h]
  refine ⟨Nat.zero_le 8, nofun, fun _ => rfl, ?_⟩
  rintro k g ⟨⟩
  decide

theorem clearRouted_engineLegal (x : Source) (s : State) : engineLegal (clearRouted x s) = engineLegal s := by
  unfold clearRouted
  (repeat' split) <;> rfl

theorem applySense_engineLegal (x : Source) (s : State) : engineLegal (applySense x s) = engineLegal s := by
  unfold applySense
  split <;> rfl

theorem takePending_engineLegal (x : Source) (s : State) : engineLegal (takePending x s) = engineLegal s := by
  unfold takePending
  (repeat' split) <;> rfl

theorem applySource_engineLegal (s : State) : engineLegal (applySource s) = engineLegal s := by
  unfold applySource
  split
  · rfl
  · split
    · rfl
    · split
      · rfl
      · refine (applySense_engineLegal _ _).trans ?_
        split
        · rfl
        · exact clearRouted_engineLegal _ s

theorem takeSource_engineLegal (s : State) : engineLegal (takeSource s) = engineLegal s := by
  unfold takeSource
  split
  · rfl
  · split
    · rfl
    · exact takePending_engineLegal _ s

/-- Of the commands only run control and the two resets move the Engine. -/
theorem performCommand_engineLegal (c : Instr) {s : State} (hs : engineLegal s = true) (hi : s.inInit = false) :
    engineLegal (performCommand c s) = true := by
  cases c with
  | run => exact runEngine_engineLegal hs hi
  | stop => exact stopEngine_engineLegal hs hi
  | step => exact stepEngine_engineLegal hs hi
  | softReset => exact engineLegal_of_reset (s := softReset s) rfl
  | busReset =>
    simp only [performCommand, busResetCommand]
    split
    · exact hs
    · rw [setResult_engineLegal]
      exact startBusReset_engineLegal hs
  | srcApply => exact (applySource_engineLegal s).trans hs
  | take => exact (takeSource_engineLegal s).trans hs
  | flush | clearFault => exact hs
  | post | pop =>
    simp only [performCommand, postRequest, popCompletion]
    (repeat' split) <;> exact hs
  | profApply | profLoad =>
    simp only [performCommand, applyProfile, loadProfile]
    (repeat' split) <;> exact hs
  | srcLoad | endService =>
    simp only [performCommand, loadSource, endSource]
    (repeat' split) <;> exact hs
  | arm | chStop | chAck =>
    simp only [performCommand, armChannel, stopChannel, ackChannel]
    (repeat' split) <;> exact hs
  | unknownCmd | mdataRead | mdataWrite | configWrite | attnCfgWrite | windowWrite | resetAssert | resetDeassert | clearSweepEnd
  | satnAssertion | satnDeassertion | dispatchChoice | responseWindowExpiry | holdLimitReached | cycleEnd | busResetIntervalEnd
  | dividerTakesEffect | identifyIntervalLapse | settlePeriodsBegin | backoffExpiry | ccbLoad | channelCountStep
  | channelAddressStep | channelDataStep | channelRollback | inDataWrite | stationResponse | byteTransfer | senseSample
  | answerCheckSample => exact hs

theorem writeCmd_engineLegal (w : Word) {s : State} (hs : engineLegal s = true) (hi : s.inInit = false) :
    engineLegal (writeCmd w s) = true := by
  unfold writeCmd
  split
  · exact performCommand_engineLegal _ hs hi
  · exact hs

theorem readMdata_engineLegal (running : Bool) {s : State} (hs : engineLegal s = true) :
    engineLegal (readMdata running s) = true := by
  unfold readMdata
  split
  · exact hs
  · exact windowTurn_engineLegal running hs

theorem writeMdata_engineLegal (data : Word) (running : Bool) {s : State} (hs : engineLegal s = true) :
    engineLegal (writeMdata data running s) = true := by
  unfold writeMdata
  split
  · exact hs
  · exact windowTurn_engineLegal running hs

theorem storeLocation_engineLegal (location : BitVec 5) (w : Word) (s : State) :
    engineLegal (storeLocation location w s) = engineLegal s := by
  rw [storeLocation_frame]
  rfl

theorem writeLocation_engineLegal (location : BitVec 5) (w : Word) {s : State} (hs : engineLegal s = true) :
    engineLegal (writeLocation location w s) = true := by
  unfold writeLocation
  split
  · exact windowCommand_engineLegal hs (writeCmd_engineLegal w hs)
  · exact writeMdata_engineLegal w false hs
  · exact unlessInit_engineLegal rfl hs
  · exact unlessInit_engineLegal rfl hs
  · exact unlessInit_engineLegal (storeLocation_engineLegal location w s) hs

/-! ### The events of the interval and of RESET# (R18, R105, R107, R116, R203) -/

theorem beginSettle_engineLegal {s : State} (hs : engineLegal s = true) : engineLegal (beginSettle s) = true := by
  unfold beginSettle
  split
  · exact hs
  · next hb _ =>
    split
    · exact setBus_resetting_engineLegal false (by decide) hs (busy_eq_false hb)
    · exact hs
  · exact hs
  · exact hs

theorem endInterval_engineLegal {s : State} (hs : engineLegal s = true) : engineLegal (endInterval s) = true := by
  unfold endInterval
  split
  · exact hs
  · next hb _ =>
    obtain ⟨hshare, hrun, hinit, -⟩ := (engineLegal_offBus_iff (busy_eq_false hb)).mp hs
    exact (engineLegal_offBus_iff rfl).mpr ⟨hshare, hrun, hinit, nofun⟩
  · exact hs
  · exact hs

/-- The end of INIT adds no condition to the law. -/
theorem endSweep_engineLegal {s : State} (hs : engineLegal s = true) : engineLegal (endSweep s) = true := by
  unfold endSweep
  split
  · obtain ⟨hshare, hstop, -, hperiod⟩ := (engineLegal_iff _).mp (endInterval_engineLegal hs)
    exact (engineLegal_iff _).mpr ⟨hshare, hstop, nofun, hperiod⟩
  · exact hs
  · exact hs

theorem assertReset_engineLegal (held : Nat) {s : State} (hs : engineLegal s = true) :
    engineLegal (assertReset held s) = true := by
  have htake : engineLegal (takeReset held s) = true := by
    unfold takeReset
    split
    · exact engineLegal_of_reset (s := pinReset s) rfl
    · split
      · exact engineLegal_of_reset (s := pinReset s.nextFree) rfl
      · exact hs
  unfold assertReset
  split
  · exact hs
  · exact htake
  · exact htake

/-- RESET# is deasserted with the Engine halted and no bus work in flight, and INIT goes on. -/
theorem deassertReset_engineLegal {s : State} (hs : engineLegal s = true) : engineLegal (deassertReset s) = true := by
  unfold deassertReset
  split
  · next hp =>
    have hi : s.inInit = true := by simp [State.inInit, hp]
    obtain ⟨hshare, -, hinit, -⟩ := (engineLegal_iff s).mp hs
    have hrun : s.engine.run = .halted := (hinit hi).1
    refine (engineLegal_offBus_iff rfl).mpr ⟨hshare, ?_, fun _ => hrun, ?_⟩
    · rintro (h : s.engine.run = _)
      exact nomatch hrun.symm.trans h
    · rintro k g ⟨⟩
      decide
  · exact hs
  · exact hs

/-! ### Every command and every period -/

theorem tick_inInit (s : State) : (tick s).inInit = s.inInit := by
  have hpart := (tick_sweep s).1
  unfold State.inInit
  rw [hpart]
  cases hp : s.part with
  | init k => rw [sweepPeriod_init hp]
  | resetAsserted | running => rw [sweepPeriod_outside (by simp [hp]), hp]

theorem tick_busy (s : State) : (tick s).busy = s.busy := by
  have hbus := tick_engine_bus s
  unfold State.busy
  rw [hbus]
  cases s.engine.bus with
  | idle | cycle => rfl
  | resetting k f =>
    obtain ⟨n, g, hn⟩ : ∃ n g, busPeriod s.part (.resetting k f) = .resetting n g := by
      simp only [busPeriod]
      (repeat' split) <;> exact ⟨_, _, rfl⟩
    rw [hn]

/-- The period of an interval after one of its 64 is one of them. -/
theorem busPeriod_inRange {part : PartPhase} {b : Bus} (hb : ∀ k f, b = .resetting k f → 1 ≤ k ∧ k ≤ 64) {n : Nat} {g : Bool}
    (h : busPeriod part b = .resetting n g) : 1 ≤ n ∧ n ≤ 64 := by
  cases b with
  | idle | cycle => cases h
  | resetting k f =>
    obtain ⟨hlow, hhigh⟩ := hb k f rfl
    by_cases hstays : part = .resetAsserted ∨ k = 32 ∨ 64 ≤ k
    · rw [busPeriod_interval_stays hstays] at h
      cases h
      exact ⟨hlow, hhigh⟩
    · push Not at hstays
      obtain ⟨hp, h32, h64⟩ := hstays
      rw [busPeriod_interval hp h32 h64] at h
      cases h
      omega

/-- A period leaves the run state and the share counter, and goes on within the bus state. -/
theorem tick_engineLegal {s : State} (hs : engineLegal s = true) : engineLegal (tick s) = true := by
  obtain ⟨hshare, hstop, hinit, hperiod⟩ := (engineLegal_iff s).mp hs
  rw [engineLegal_iff, tick_busy, tick_inInit, tick_engine]
  exact ⟨hshare, hstop, hinit, fun _ _ => busPeriod_inRange hperiod⟩

/-- Every row keeps the law; the command rows are `performCommand` behind the INIT check. -/
theorem exec_engineLegal (i : Instr) {s : State} (hs : engineLegal s = true) :
    ∃ t, exec i s = .next t ∧ engineLegal t = true := by
  have command (c : Instr) : engineLegal (windowCommand (performCommand c) s) = true :=
    windowCommand_engineLegal hs (performCommand_engineLegal c hs)
  have slots (inStep : ChState → Bool) (x : Service) : engineLegal (serveSlots inStep x.channel x.slots s) = true :=
    serveSlots_engineLegal inStep x hs
  cases i with
  | run | stop | step | flush | busReset | clearFault | softReset | post | pop | profApply | profLoad | srcApply | srcLoad
  | take | endService | arm | chStop | chAck => exact ⟨_, exec_command rfl s, command _⟩
  | unknownCmd w => exact ⟨_, rfl, windowCommand_engineLegal hs (writeCmd_engineLegal w hs)⟩
  | mdataRead running => exact ⟨_, rfl, readMdata_engineLegal running hs⟩
  | mdataWrite data running => exact ⟨_, rfl, writeMdata_engineLegal data running hs⟩
  | configWrite | attnCfgWrite => exact ⟨_, rfl, unlessInit_engineLegal rfl hs⟩
  | windowWrite location w => exact ⟨_, rfl, writeLocation_engineLegal location w hs⟩
  | resetAssert held => exact ⟨_, rfl, assertReset_engineLegal held hs⟩
  | resetDeassert => exact ⟨_, rfl, deassertReset_engineLegal hs⟩
  | clearSweepEnd => exact ⟨_, rfl, endSweep_engineLegal hs⟩
  | busResetIntervalEnd => exact ⟨_, rfl, endInterval_engineLegal hs⟩
  | settlePeriodsBegin => exact ⟨_, rfl, beginSettle_engineLegal hs⟩
  | satnAssertion | satnDeassertion | identifyIntervalLapse =>
    refine ⟨_, rfl, ?_⟩
    split <;> exact hs
  | backoffExpiry n =>
    refine ⟨_, rfl, ?_⟩
    unfold expireBackoff
    split <;> exact hs
  | dividerTakesEffect =>
    refine ⟨_, rfl, ?_⟩
    unfold applyDivider
    split <;> exact hs
  | dispatchChoice =>
    refine ⟨_, rfl, ?_⟩
    split
    · next h =>
      obtain ⟨-, -, hi⟩ := (mayChoose_iff s).mp h
      obtain ⟨hshare, -⟩ := (engineLegal_iff s).mp hs
      split
      · exact (engineLegal_cycle_iff rfl).mpr ⟨hshare, hi⟩
      · exact grantShared_engineLegal hs hi
    · exact hs
  | responseWindowExpiry | holdLimitReached | stationResponse | byteTransfer | senseSample | answerCheckSample =>
    exact ⟨_, rfl, onCycle_engineLegal _ hs⟩
  | cycleEnd =>
    refine ⟨_, rfl, ?_⟩
    split
    · next hb =>
      split
      · split
        · exact deliver_engineLegal _ (s := takeDivider s) hb hs
        · exact hs
      · exact hs
    · exact hs
    · exact hs
  | ccbLoad x | channelCountStep x | channelAddressStep x | channelRollback x | inDataWrite x => exact ⟨_, rfl, slots _ x⟩
  | channelDataStep x => exact ⟨_, rfl, beginWordCycle_engineLegal x.channel (slots _ x)⟩

/-- Settles O54: the front command keeps the law row by row, an empty queue's period in every bus state. -/
theorem engineStaysLegal : Obligations.EngineStaysLegal := by
  intro s t hs hstep
  unfold step at hstep
  split at hstep
  · cases hstep
    exact tick_engineLegal hs
  · next c rest _ =>
    obtain ⟨u, hu, hlegal⟩ := exec_engineLegal c (s := { s with pending := rest }) hs
    rw [hu] at hstep
    cases hstep
    exact hlegal

end Sys2Proof.Machine
end

section
/-! PROOFS. Run control, the grant of an IDENTIFY and of a channel word, and BUS_RESET off the bus (R86 to R90, R94 to R96, R103,
R104). -/

namespace Sys2Proof.Machine

/-! ### Run control (R94 to R96) -/

theorem runEngine_eq (s : State) : runEngine s = (s.toRun .running).answers .ok := by
  unfold runEngine
  rw [setRun_eq_toRun (by decide)]
  rfl

/-- A STOP that finds bus work in flight waits for its end, in STOPPING. -/
theorem stopEngine_working {s : State} (h : s.engine.run = .running ∨ s.engine.run = .stepping) :
    stopEngine s = (s.toRun (if s.busy then .stopping else .halted)).answers .ok := by
  have hstops : (if s.busy then s.setRun .stopping else enterHalted s) =
      s.toRun (if s.busy then .stopping else .halted) := by
    split
    · exact setRun_eq_toRun (by decide)
    · exact enterHalted_eq (by obtain h | h := h <;> simp [h])
  rw [← hstops]
  unfold stopEngine
  obtain h | h := h <;> (rw [h]; rfl)

/-- A STOP that finds the Engine stopping or halted leaves it so. -/
theorem stopEngine_stopped {s : State} (h : s.engine.run = .stopping ∨ s.engine.run = .halted) :
    stopEngine s = (s.toRun s.engine.run).answers .ok := by
  rw [toRun_self]
  unfold stopEngine
  obtain h | h := h <;> (rw [h]; rfl)

theorem stepEngine_halted {s : State} (h : s.engine.run = .halted) : stepEngine s = (s.toRun .stepping).answers .ok := by
  unfold stepEngine
  rw [h, setRun_eq_toRun (by decide)]
  rfl

theorem stepEngine_refused {s : State} (h : s.engine.run ≠ .halted) : stepEngine s = s.answers .badState := by
  unfold stepEngine
  split
  · next hr => exact absurd hr h
  all_goals rfl

/-- Settles O16: STOP by the run state it finds, STEP by whether that is HALTED. -/
theorem runStopStep : Obligations.RunStopStep := by
  intro s hi
  have hrun : exec .run s = .next (runEngine s) := exec_command_performed rfl hi
  have hstop : exec .stop s = .next (stopEngine s) := exec_command_performed rfl hi
  have hstep : exec .step s = .next (stepEngine s) := exec_command_performed rfl hi
  rw [hrun, hstop, hstep]
  refine ⟨congrArg _ (runEngine_eq s), congrArg _ ?_, fun h => congrArg _ (stepEngine_halted h),
    fun h => congrArg _ (stepEngine_refused h)⟩
  cases hr : s.engine.run with
  | running => exact stopEngine_working (.inl hr)
  | stepping => exact stopEngine_working (.inr hr)
  | stopping => exact (stopEngine_stopped (.inl hr)).trans (by rw [hr])
  | halted => exact (stopEngine_stopped (.inr hr)).trans (by rw [hr])

/-! ### No choice, and the grant of an IDENTIFY (R86, R87, R90, R152) -/

theorem exec_dispatchChoice (s : State) : exec .dispatchChoice s =
    .next (if mayChoose s then (if identifyDue s then grantIdentify s else grantShared s) else s) := rfl

/-- Outside the conditions of a choice none is made. -/
theorem exec_dispatchChoice_none {s : State} (hmay : ¬ mayDispatch s) : exec .dispatchChoice s = .next s := by
  rw [exec_dispatchChoice, if_neg (mt (mayChoose_iff s).mp hmay)]

theorem exec_dispatchChoice_identify {s : State} (hmay : mayDispatch s) (hdue : dueIdentify s) :
    exec .dispatchChoice s = .next (grantIdentify s) := by
  rw [exec_dispatchChoice, if_pos ((mayChoose_iff s).mpr hmay), if_pos ((identifyDue_iff s).mpr hdue)]

theorem grantShared_nothing {s : State} (hc : candidate s = none) (hn : nextChannel s = none) : grantShared s = s := by
  simp only [grantShared, hc, hn]

/-- Settles O31: by whether a choice may be made; an IDENTIFY due comes before the share rule. -/
theorem dispatchGrantsIdentifyFirst : Obligations.DispatchGrantsIdentifyFirst := by
  refine fun s => ⟨exec_dispatchChoice_none, fun hdue hc hn => ?_, fun hmay hdue => ?_⟩
  · by_cases hmay : mayDispatch s
    · rw [exec_dispatchChoice_shared hmay hdue, grantShared_nothing hc hn]
    · exact exec_dispatchChoice_none hmay
  · exact exec_dispatchChoice_identify hmay hdue

/-! ### The grant of a channel word (R88 to R90, R130) -/

/-- A channel word is granted where the queue offers nothing, or the channels have part of their share left; against an offered
request the counter rises. -/
theorem grantShared_word {s : State} {c : Channel} (hn : nextChannel s = some c)
    (hc : candidate s = none ∨ s.engine.share < s.cfg.share.toNat + 1) : grantShared s =
      grantWord c { s with
        engine := { s.engine with share := if (candidate s).isSome then s.engine.share + 1 else s.engine.share } } := by
  unfold grantShared
  rw [hn]
  cases hq : candidate s with
  | none => rfl
  | some r =>
    have hshare : s.engine.share < shareLimit s := hc.resolve_left (by simp [hq])
    exact if_pos hshare

/-- Settles O33: the share rule gives the word to the channel, and its grant holds the bus. -/
theorem dispatchGrantsChannelWord : Obligations.DispatchGrantsChannelWord := by
  intro s c k hmay hdue hn hk hc
  rw [exec_dispatchChoice_shared hmay hdue, grantShared_word hn hc]
  simp only [grantWord, hk]

/-! ### BUS_RESET in an interval and on an idle bus (R103, R104) -/

/-- Settles O41: on an idle bus the reset finds no work to end. -/
theorem busResetOnIdleBus : Obligations.BusResetOnIdleBus := by
  intro s hi
  have hexec : exec .busReset s = .next (busResetCommand s) := exec_command_performed rfl hi
  rw [hexec]
  refine ⟨fun k f hb => ?_, fun hb => ?_⟩
  · have hr : s.resetting = true := resetting_iff.mpr ⟨k, f, hb⟩
    rw [busResetCommand, if_pos hr]
    rfl
  · have hr : s.resetting = false := resetting_eq_false (by simp [hb])
    rw [busResetCommand, hr, startBusReset_idle hb]
    rfl

end Sys2Proof.Machine
end

section
/-! PROOFS. The record a channel takes as its word ends (R134, R138, R141, R143, R145), and BUS_RESET with a channel word on the bus
(R145, R146). -/

namespace Sys2Proof.Machine

/-! ### The record a channel takes -/

/-- The channel takes a record; where the record is FAULTED that is a halt trigger (R98, R143). -/
def State.takesRecord (s : State) (c : Channel) (y : ChannelRec) : State :=
  (s.setChannel c y).toRun (runAfterTrigger (s.cfg.haltOnError && y.state == .faulted) s.busy s.engine.run)

theorem setChannel_setChannel (s : State) (c : Channel) (x y : ChannelRec) :
    (s.setChannel c x).setChannel c y = s.setChannel c y := by
  simp [State.setChannel]

theorem setChannel_channel (s : State) (c : Channel) (x : ChannelRec) : (s.setChannel c x).channels[c] = x := by
  simp

/-- Of two records a channel takes in a row the last one stands. -/
theorem setChannel_takesRecord (s : State) (c : Channel) (x y : ChannelRec) :
    (s.setChannel c x).takesRecord c y = s.takesRecord c y := by
  unfold State.takesRecord
  rw [setChannel_setChannel]
  rfl

theorem takesRecord_of_not_faulted {s : State} {c : Channel} {y : ChannelRec} (h : (y.state == .faulted) = false) :
    s.takesRecord c y = s.setChannel c y := by
  have hself := toRun_self (s.setChannel c y)
  unfold State.takesRecord
  rw [h, Bool.and_false, runAfterTrigger_false]
  exact hself

theorem enterFaulted_takes (c : Channel) (x : Reason) (s : State) :
    enterFaulted c x s = s.takesRecord c ((s.channels[c]).ends .faulted x) := by
  have htrigger : (s.cfg.haltOnError && ((s.channels[c]).ends .faulted x).state == .faulted) = s.cfg.haltOnError :=
    Bool.and_true _
  unfold State.takesRecord
  rw [enterFaulted_eq, htrigger]

theorem enterEnded_takes (c : Channel) (x : Reason) (s : State) :
    enterEnded c x s = s.takesRecord c ((s.channels[c]).ends .ended x) :=
  (takesRecord_of_not_faulted rfl).symm

/-! ### The ACK of a word (R134, R138, R141, R145) -/

/-- A finished CCB ends its channel, or leads to its link. -/
theorem finishCcb_takes {c : Channel} {s : State} {r : ChannelRec} {k : Control} (lost : Bool)
    (hs : s.channels[c] = { r with defers := 0 }) (hk : r.control = some k) (hcount : r.keptCount.getD 0 + 1 = 0) :
    finishCcb c lost s = s.takesRecord c (r.afterAck k lost) := by
  unfold finishCcb ChannelRec.afterAck
  rw [hs, if_pos hcount]
  dsimp only
  rw [hk]
  split
  · split
    · rw [enterFaulted_takes, setChannel_channel, setChannel_takesRecord]
      rfl
    · rw [setChannel_channel, setChannel_setChannel]
      cases lost with
      | true =>
        rw [if_pos rfl, if_pos rfl, enterFaulted_takes, setChannel_channel, setChannel_takesRecord]
        rfl
      | false => exact (takesRecord_of_not_faulted rfl).symm
  · rw [enterEnded_takes, setChannel_channel, setChannel_takesRecord]
    rfl

/-- A CCB not finished goes on, unless a stop request or a bus reset ends its channel. -/
theorem resumeOrStop_takes {c : Channel} {s : State} {r : ChannelRec} (k : Control) (lost : Bool)
    (hs : s.channels[c] = { r with defers := 0 }) (hcount : r.keptCount.getD 0 + 1 ≠ 0) :
    resumeOrStop c lost s = s.takesRecord c (r.afterAck k lost) := by
  unfold resumeOrStop ChannelRec.afterAck
  rw [if_neg hcount, enterEnded_takes, enterFaulted_takes, hs]
  dsimp only
  split
  · rfl
  · split
    · rfl
    · exact (takesRecord_of_not_faulted rfl).symm

/-- The release of the bus does not look at the channels' records. -/
theorem releaseBus_setChannel (c : Channel) (y : ChannelRec) (s : State) :
    releaseBus c (s.setChannel c y) = (releaseBus c s).setChannel c y := by
  have hown : ownsBus c (s.setChannel c y) = ownsBus c s := rfl
  unfold releaseBus
  rw [hown]
  split
  · unfold endBusWork
    rw [workEnded_eq, workEnded_eq]
    rfl
  · rfl

theorem consumeFresh_eq (k : Control) (s : State) : consumeFresh k s = { s with attn := s.attn.consumed k } := by
  unfold consumeFresh Attention.consumed
  split <;> rfl

/-- The ACK of a word ends its bus work, clears the fresh flag it was paced by, and leaves its channel with its next record. -/
theorem channelAck_takes {c : Channel} {s : State} {k : Control} (hk : (s.channels[c]).control = some k) :
    channelAck c s = (releaseBus c { s with attn := s.attn.consumed k }).takesRecord c
      ((s.channels[c]).afterAck k (!ownsBus c s)) := by
  have hreleased : releaseBus c (consumeFresh k (s.setChannel c { s.channels[c] with defers := 0 })) =
      (releaseBus c { s with attn := s.attn.consumed k }).setChannel c { s.channels[c] with defers := 0 } := by
    rw [consumeFresh_eq, ← releaseBus_setChannel]
    rfl
  rw [← setChannel_takesRecord _ c { s.channels[c] with defers := 0 }]
  unfold channelAck
  dsimp only at hreleased ⊢
  split
  · next hnone => exact nomatch hnone.symm.trans hk
  · next k' hk' =>
    obtain rfl : k = k' := Option.some.inj (hk.symm.trans hk')
    rw [hreleased]
    split
    · next hcount => exact finishCcb_takes _ (setChannel_channel _ _ _) hk hcount
    · next hcount => exact resumeOrStop_takes k _ (setChannel_channel _ _ _) hcount

/-! ### A channel whose word a reset has ended (R145) -/

theorem ownsBus_interrupted (c : Channel) (s : State) : ownsBus c s.interrupted = false := by
  rw [interrupted_eq]
  rfl

theorem releaseBus_lost {c : Channel} {s : State} (h : ownsBus c s = false) : releaseBus c s = s := by
  rw [releaseBus, h]
  rfl

theorem interrupted_channels (s : State) : s.interrupted.channels = s.channels := workEnded_channels _

/-- What the owner's outcome writes, on the state before the interruption. -/
theorem interrupted_takesRecord (s : State) (a : Attention) (c : Channel) (y : ChannelRec) (f : Option FaultEntry) :
    { ({ s.interrupted with attn := a } : State).takesRecord c y with fault := f } =
      (({ s with channels := s.channels.set c y, attn := a, fault := f } : State).setBus (resettingFrom s)).toRun
        (runAfterWork (s.cfg.haltOnError && y.state == .faulted) s.engine.run) := by
  have hrun : runAfterTrigger (s.cfg.haltOnError && y.state == .faulted) false (runAfterWork false s.engine.run) =
      runAfterWork (s.cfg.haltOnError && y.state == .faulted) s.engine.run := by
    rw [runAfterTrigger_runAfterWork, Bool.false_or]
  rw [interrupted_eq, ← hrun]
  refine Eq.trans ?_ (toRun_toRun (a := runAfterWork false s.engine.run) (fun h => ?_) fun h => ?_)
  · rfl
  · have hv : s.engine.run = .halted := h
    rw [hv, runAfterWork_halted]
  · rw [h, runAfterTrigger_halted]

/-- The ACK of a word whose bus work a reset has ended does not leave its channel working (R145). -/
theorem afterAck_lost (r : ChannelRec) (k : Control) : (r.afterAck k true).state.isLoadingOrActive = false := by
  simp only [ChannelRec.afterAck, if_true]
  (repeat' split) <;> rfl

/-- Which channels trigger a halt does not depend on one that neither loads nor is active. -/
theorem resetTriggers_set {s : State} {c : Channel} {y : ChannelRec} (hs : (s.channels[c]).state.isLoadingOrActive = false)
    (hy : y.state.isLoadingOrActive = false) :
    ({ s with channels := s.channels.set c y } : State).resetTriggers = s.resetTriggers := by
  have hsame (d : Channel) :
      ((s.channels.set c y)[d]).state.isLoadingOrActive = (s.channels[d]).state.isLoadingOrActive := by
    by_cases hd : c = d
    · subst hd
      simp only [Fin.getElem_fin, Vector.getElem_set_self] at hs ⊢
      rw [hs, hy]
    · simp [Vector.getElem_set_ne, Fin.val_ne_of_ne hd]
  unfold State.resetTriggers
  simp only [hsame]

section
variable {s : State} {w : BusWork} {ch : Channel} {x : WordStep}

/-- BUS_RESET with a channel's word on the bus: where the channel takes the record `y`, which leaves it neither LOADING nor ACTIVE,
and the fault record becomes `f`, the command adds the effects of the interval. -/
theorem busReset_word {y : ChannelRec} {a : Attention} {f : Option FaultEntry} (hi : s.inInit = false)
    (hb : s.engine.bus = .cycle w) (hx : (s.channels[ch]).state = .moving x) (hy : y.state.isLoadingOrActive = false)
    (ha : a.atReset = s.attn.atReset)
    (howner : ownerMeetsReset w s.interrupted =
      { ({ s.interrupted with attn := a } : State).takesRecord ch y with fault := f }) :
    exec .busReset s = .next
      (((({ s with channels := s.channels.set ch y, fault := f } : State).busReset (pins s).sdir).toRun
        (runAfterWork (s.cfg.haltOnError && y.state == .faulted || s.resetTriggers) s.engine.run)).answers .ok) := by
  have htriggers : ({ s with channels := s.channels.set ch y, attn := a, fault := f } : State).resetTriggers =
      s.resetTriggers := resetTriggers_set (by rw [hx]; rfl) hy
  rw [interrupted_takesRecord] at howner
  rw [exec_busReset_of_work hi hb howner rfl htriggers]
  exact congrArg (fun u : State => Host.Outcome.next ((u.toRun _).answers .ok))
    (busReset_attention { s with channels := s.channels.set ch y, fault := f } ha _)

/-- The outcome of a channel's cycle at the start of a bus reset: the channel takes it, and its fault is written. -/
theorem ownerMeetsReset_channel {c : Cycle} {o : CycleOutcome} {y : ChannelRec} {a : Attention} (hw : w.owner = .channel ch)
    (hc : w.cycle = some c) (ho : outcomeAtReset c = o)
    (htakes : channelOutcome ch o s.interrupted = ({ s.interrupted with attn := a } : State).takesRecord ch y) :
    ownerMeetsReset w s.interrupted =
      { ({ s.interrupted with attn := a } : State).takesRecord ch y with fault := o.faultRecord w.station s.fault } := by
  simp only [ownerMeetsReset, hw, hc, ho]
  rw [htakes, writeCycleFault_eq, ← interrupted_fault s]
  rfl

/-- A rollback begins where the word has kept its count; else the channel faults or handles its DEFER at once (R137). -/
theorem startRollback_kept {u : State} {v : Word} (e : WordEnd) (hv : (u.channels[ch]).keptCount = some v) :
    startRollback ch e u = u.takesRecord ch { u.channels[ch] with state := .moving (.rollCount e) } := by
  unfold startRollback
  dsimp only
  rw [hv]
  exact (takesRecord_of_not_faulted rfl).symm

theorem startRollback_nothingKept {u : State} (reason : Reason) (hown : ownsBus ch u = false)
    (hv : (u.channels[ch]).keptCount = none) :
    startRollback ch (.fault reason) u = u.takesRecord ch ((u.channels[ch]).ends .faulted reason) := by
  unfold startRollback leaveMoving
  dsimp only
  rw [hv]
  dsimp only
  rw [releaseBus_lost hown, enterFaulted_takes]

/-- A failing outcome leads to the fault of its reason. -/
theorem channelOutcome_fails {o : CycleOutcome} {reason : Reason} (ho : o.reason = some reason) (u : State) :
    channelOutcome ch o u = startRollback ch (.fault reason) u := by
  cases o with
  | noResponse | protocol | parity | busHang | cut =>
    cases ho
    rfl
  | ack | defer | answer | identifyParity => cases ho

/-- The state the channel meets the reset in keeps the channel's record. -/
theorem interrupted_channel (s : State) (ch : Channel) : s.interrupted.channels[ch] = s.channels[ch] := by
  rw [interrupted_channels]

/-- BUS_RESET where the channel takes its cycle's outcome by a record alone. -/
theorem busReset_word_outcome {c : Cycle} {o : CycleOutcome} {y : ChannelRec} (hi : s.inInit = false)
    (hb : s.engine.bus = .cycle w) (hw : w.owner = .channel ch) (hx : (s.channels[ch]).state = .moving x)
    (hc : w.cycle = some c) (ho : outcomeAtReset c = o) (hy : y.state.isLoadingOrActive = false)
    (htakes : channelOutcome ch o s.interrupted = s.interrupted.takesRecord ch y) :
    exec .busReset s = .next
      (((({ s with
        channels := s.channels.set ch y
        fault := o.faultRecord w.station s.fault } : State).busReset (pins s).sdir).toRun
          (runAfterWork (s.cfg.haltOnError && y.state == .faulted || s.resetTriggers) s.engine.run)).answers .ok) := by
  have ha : s.interrupted.attn.atReset = s.attn.atReset := by rw [interrupted_attn]
  exact busReset_word hi hb hx hy ha (ownerMeetsReset_channel hw hc ho htakes)

/-- A word cut before it has kept anything faults its channel; one that has kept its count rolls back (R137, R145). -/
theorem busReset_word_cut {y : ChannelRec} (hi : s.inInit = false) (hb : s.engine.bus = .cycle w)
    (hx : (s.channels[ch]).state = .moving x) (hy : y.state.isLoadingOrActive = false)
    (hcut : ownerMeetsReset w s.interrupted = channelOutcome ch .cut s.interrupted)
    (htakes : startRollback ch (.fault .busReset) s.interrupted = s.interrupted.takesRecord ch y) :
    exec .busReset s = .next
      (((({ s with channels := s.channels.set ch y } : State).busReset (pins s).sdir).toRun
        (runAfterWork (s.cfg.haltOnError && y.state == .faulted || s.resetTriggers) s.engine.run)).answers .ok) := by
  have ha : s.interrupted.attn.atReset = s.attn.atReset := by rw [interrupted_attn]
  refine busReset_word (a := s.interrupted.attn) (f := s.fault) hi hb hx hy ha ?_
  rw [hcut, channelOutcome_fails rfl, htakes, ← interrupted_fault s]
  rfl

/-- In its cycle or in its memory steps before it a channel receives CUT (R19, R104; assumption 16). -/
theorem ownerMeetsReset_cut (hw : w.owner = .channel ch) (hx : (s.channels[ch]).state = .moving x)
    (hc : ∀ c, w.cycle = some c → c.phase.isEnding = false)
    (hstep : w.cycle.isSome = true ∨ x = .countRead ∨ x = .countWrite ∨ x = .zeroAddrRead ∨ x = .addrRead ∨ x = .addrWrite ∨
      x = .outRead ∨ (∃ d, x = .ask d)) :
    ownerMeetsReset w s.interrupted = channelOutcome ch .cut s.interrupted := by
  cases hcycle : w.cycle with
  | some c =>
    simp only [ownerMeetsReset, hw, hcycle, outcomeAtReset_cut (hc c hcycle)]
    rfl
  | none =>
    rw [← interrupted_channel] at hx
    simp only [ownerMeetsReset, hw, hcycle, wordMeetsReset, hx]
    simp only [hcycle] at hstep
    obtain h | rfl | rfl | rfl | rfl | rfl | rfl | ⟨d, rfl⟩ := hstep
    · cases h
    all_goals rfl

/-- On its fault path, or taking an outcome, a channel goes on with that (R145); the fault record alone may change. -/
theorem busReset_word_goesOn {f : Option FaultEntry} (hi : s.inInit = false) (hb : s.engine.bus = .cycle w)
    (hw : w.owner = .channel ch) (hc : w.cycle = none)
    (hmeets : wordMeetsReset ch w.station s.interrupted = { s.interrupted with fault := f }) :
    exec .busReset s = .next
      (((({ s with fault := f } : State).busReset (pins s).sdir).toRun
        (runAfterWork s.resetTriggers s.engine.run)).answers .ok) := by
  have howner : ownerMeetsReset w s.interrupted =
      (({ s with fault := f } : State).setBus (resettingFrom s)).toRun (runAfterWork false s.engine.run) := by
    simp only [ownerMeetsReset, hw, hc]
    rw [hmeets, interrupted_eq]
    rfl
  have hexec := exec_busReset_of_work hi hb howner rfl rfl
  rw [Bool.false_or] at hexec
  exact hexec

/-- A hang it rolls back from is written as its bus work ends here (R102, assumption 19). -/
theorem wordMeetsReset_hang {u : State} (n : Option Station) (hx : (u.channels[ch]).state = .moving x)
    (hstep : x = .rollCount (.fault .busHang) ∨ x = .rollAddr (.fault .busHang)) :
    wordMeetsReset ch n u = { u with fault := faultAfter u.fault .busHang n } := by
  rw [← writeFault_eq]
  unfold wordMeetsReset
  rw [hx]
  obtain rfl | rfl := hstep <;> rfl

/-- The IN word's write and any other rollback go on (R145). -/
theorem wordMeetsReset_goesOn {u : State} (n : Option Station) (hx : (u.channels[ch]).state = .moving x)
    (hstep : (∃ d, x = .inWrite d) ∨ (∃ e, (x = .rollCount e ∨ x = .rollAddr e) ∧ e ≠ .fault .busHang)) :
    wordMeetsReset ch n u = u := by
  obtain ⟨d, rfl⟩ | ⟨e, rfl | rfl, he⟩ := hstep <;> simp only [wordMeetsReset, hx]

/-- The ACK of an OUT word leaves its channel with its next record; the fresh flag it clears is one the reset clears too. -/
theorem busReset_word_acked {c : Cycle} {k : Control} {data : Option Word} (hi : s.inInit = false)
    (hb : s.engine.bus = .cycle w) (hw : w.owner = .channel ch) (hx : (s.channels[ch]).state = .moving x)
    (hc : w.cycle = some c) (ho : c.phase = .ending (.ack data)) (hk : (s.channels[ch]).control = some k) (hout : k.out = true) :
    exec .busReset s = .next
      (((({ s with channels := s.channels.set ch ((s.channels[ch]).afterAck k true) } : State).busReset (pins s).sdir).toRun
        (runAfterWork (s.cfg.haltOnError && ((s.channels[ch]).afterAck k true).state == .faulted || s.resetTriggers)
          s.engine.run)).answers .ok) := by
  have hconsumed (a : Attention) : (a.consumed k).atReset = a.atReset := by
    unfold Attention.consumed
    split <;> rfl
  have ha : (s.interrupted.attn.consumed k).atReset = s.attn.atReset := by rw [hconsumed, interrupted_attn]
  have hlost : ownsBus ch { s.interrupted with attn := s.interrupted.attn.consumed k } = false := ownsBus_interrupted ch s
  have hk' : (s.interrupted.channels[ch]).control = some k := by rw [interrupted_channel, hk]
  have hack : channelOutcome ch (.ack data) s.interrupted = channelAck ch s.interrupted := by
    simp only [channelOutcome, hk', hout, if_true]
  have htakes : channelOutcome ch (.ack data) s.interrupted =
      ({ s.interrupted with attn := s.interrupted.attn.consumed k } : State).takesRecord ch
        ((s.channels[ch]).afterAck k true) := by
    rw [hack, channelAck_takes hk', releaseBus_lost hlost, ownsBus_interrupted, interrupted_channel]
    rfl
  exact busReset_word hi hb hx (afterAck_lost _ k) ha (ownerMeetsReset_channel hw hc (outcomeAtReset_ending ho) htakes)

end

/-- Settles O43: by the step of the word, and in END by the outcome. -/
theorem busResetCutsChannelWord : Obligations.BusResetCutsChannelWord := by
  intro s w ch x hi hb hw hx
  have hrec := interrupted_channel s ch
  have hkept (e : WordEnd) {v : Word} (hv : (s.channels[ch]).keptCount = some v) :
      startRollback ch e s.interrupted =
        s.interrupted.takesRecord ch { s.channels[ch] with state := .moving (.rollCount e) } := by
    rw [← hrec] at hv ⊢
    exact startRollback_kept e hv
  dsimp only
  refine ⟨fun c o k v hc ho hk hv => ⟨?_, ?_, fun reason hreason => ?_⟩, fun hc hstep => ⟨fun hv => ?_, fun v hv => ?_⟩,
    fun hc hstep => ?_, fun hc hstep => ?_⟩
  · rintro data rfl
    by_cases hout : k.out = true
    · rw [if_pos hout]
      exact busReset_word_acked hi hb hw hx hc ho hk hout
    · rw [if_neg hout]
      refine busReset_word_outcome hi hb hw hx hc (outcomeAtReset_ending ho) rfl ?_
      rw [← hrec] at hk ⊢
      simp only [channelOutcome, hk, hout]
      exact (takesRecord_of_not_faulted rfl).symm
  · rintro rfl
    exact busReset_word_outcome hi hb hw hx hc (outcomeAtReset_ending ho) rfl (hkept (.defer 0) hv)
  · refine busReset_word_outcome hi hb hw hx hc (outcomeAtReset_ending ho) rfl ?_
    rw [channelOutcome_fails hreason]
    exact hkept _ hv
  · have htrigger : (s.cfg.haltOnError && ((s.channels[ch]).ends .faulted .busReset).state == .faulted || s.resetTriggers) =
        s.cfg.haltOnError := (congrArg (· || s.resetTriggers) (Bool.and_true _)).trans (haltOnError_or_resetTriggers s)
    rw [← htrigger]
    refine busReset_word_cut hi hb hx rfl (ownerMeetsReset_cut hw hx hc hstep) ?_
    rw [← hrec] at hv ⊢
    exact startRollback_nothingKept _ (ownsBus_interrupted ch s) hv
  · have hexec := busReset_word_cut hi hb hx rfl (ownerMeetsReset_cut hw hx hc hstep) (hkept _ hv)
    have htrigger : (s.cfg.haltOnError && false || s.resetTriggers) = s.resetTriggers :=
      (congrArg (· || s.resetTriggers) (Bool.and_false _)).trans (Bool.false_or _)
    rw [← htrigger]
    exact hexec
  · refine busReset_word_goesOn hi hb hw hc ?_
    rw [← hrec] at hx
    rw [wordMeetsReset_hang _ hx hstep, interrupted_fault]
  · refine busReset_word_goesOn (f := s.fault) hi hb hw hc ?_
    rw [← hrec] at hx
    rw [wordMeetsReset_goesOn _ hx hstep, ← interrupted_fault s]

end Sys2Proof.Machine
end

section
/-! PROOFS. The exchange memory through the window: its words, the MDATA accesses and the arbiter's turn (R108 to R114), and the
window in INIT (R117, R194). -/

namespace Sys2Proof.Machine

/-! ### The words (R108) -/

/-- Settles O14: by the laws of the sorted list of words. -/
theorem memoryReadsLastWrite : Obligations.MemoryReadsLastWrite := fun m _ _ w hm ha =>
  ⟨Memory.write_wf hm _ w, Memory.read_write_same hm ha w, Memory.read_write_other m w⟩

/-! ### The window in INIT (R117, R194) -/

theorem windowRead_init {s : State} (h : s.inInit = true) {location : BitVec 5} (hl : location ≠ 0x01#5) :
    windowRead s location = 0 := by
  rw [windowRead, if_pos h, if_neg hl]

/-- In INIT an MDATA read returns 0000h and reaches neither the memory nor the pointer. -/
theorem readMdata_init (running : Bool) {s : State} (h : s.inInit = true) : readMdata running s = (s.setHeld false).putData 0 :=
  if_pos h

theorem writeMdata_init (data : Word) (running : Bool) {s : State} (h : s.inInit = true) :
    writeMdata data running s = s.setHeld false :=
  if_pos h

/-- Settles O6: commands meet `windowCommand`, the other writes `unlessInit`, MDATA its own check. -/
theorem windowDuringInit : Obligations.WindowDuringInit := by
  refine fun s hi => ⟨fun c w hc => exec_command_init hc hi, fun w => congrArg _ (windowCommand_init _ hi),
    fun w => ⟨congrArg _ (unlessInit_init _ hi), congrArg _ (unlessInit_init _ hi)⟩, fun location w hplain =>
      congrArg Host.Outcome.next ((writeLocation_plain hplain w s).trans (unlessInit_init _ hi)),
    fun running => congrArg _ (readMdata_init running hi), fun w running => congrArg _ (writeMdata_init w running hi),
    fun location hl => windowRead_init hi hl, ?_⟩
  obtain ⟨hinit, -⟩ := statusWord_fields s
  rw [windowRead_status, hinit, hi]

/-! ### The arbiter's turn (R110 to R114) -/

/-- A channel's access leaves the window pointer. -/
theorem channelAccess_mptr (c : Channel) (s : State) : (channelAccess c s).xmem.mptr = s.xmem.mptr := by
  have hword (k : Control) (w : WordStep) : (wordAccess c k w (servedChannel c s)).xmem.mptr = s.xmem.mptr := by
    unfold wordAccess
    dsimp only
    (repeat' split) <;> simp [servedChannel]
  unfold channelAccess
  dsimp only
  split
  · split
    · rw [loadAccess_xmem]
      rfl
    · split
      · exact hword _ _
      · rfl
    all_goals rfl
  · rfl

/-- The channel whose turn it is in the rotation is the one offered (R113). -/
theorem offeredChannel_of_turnOf {s : State} {c : Channel} (h : turnOf s c) : offeredChannel s = some c := by
  obtain ⟨hwants, k, rfl, hbefore⟩ := h
  exact offeredChannel_first k hwants hbefore

/-- The window is served at once after the Block Channels, and where no channel waits (R112). -/
theorem windowTurn_at_once {running : Bool} {s : State}
    (h : (running = false ∧ s.xmem.lastServed = .channels) ∨ ∀ c : Channel, wantsMemory (s.channels[c]).state = false) :
    windowTurn running s = s.setHeld false := by
  apply windowTurn_alone
  obtain ⟨rfl, hserved⟩ | hnone := h
  · exact channelAhead_after_channels hserved
  · exact channelAhead_none (offeredChannel_none hnone)

/-- One access of the channel in turn comes before the window's where it runs as the claim arrives, or the window was served
last (R112, R114). -/
theorem windowTurn_after_access {running : Bool} {s : State} {c : Channel} (h : running = true ∨ s.xmem.lastServed = .window)
    (hturn : turnOf s c) : windowTurn running s = (channelAccess c s).setHeld true := by
  apply windowTurn_waits
  rw [← offeredChannel_of_turnOf hturn]
  obtain rfl | hserved := h
  · exact channelAhead_running s
  · exact channelAhead_after_window hserved

/-- The window's read at its slot, in the state `a` the arbiter's turn has left (R110). -/
theorem readMdata_turn {running held : Bool} {s a : State} (hi : s.inInit = false) (hturn : windowTurn running s = a.setHeld held) :
    readMdata running s =
      { a with
        port := { a.port with readData := Memory.read a.xmem.mem a.xmem.mptr.toNat, rdyHeld := held }
        xmem := { a.xmem with mptr := a.xmem.mptr + 1, lastServed := .window } } := by
  rw [readMdata, hi, hturn]
  rfl

/-- The window's write at its slot. -/
theorem writeMdata_turn {running held : Bool} {s a : State} (data : Word) (hi : s.inInit = false)
    (hturn : windowTurn running s = a.setHeld held) : writeMdata data running s =
      { a with
        port := { a.port with rdyHeld := held }
        xmem := { a.xmem with
          mem := Memory.write a.xmem.mem a.xmem.mptr.toNat data, mptr := a.xmem.mptr + 1, lastServed := .window } } := by
  rw [writeMdata, hi, hturn]
  rfl

/-- Settles O15: by whether the arbiter puts a channel's access ahead of the window's, which leaves port and pointer. -/
theorem mdataAccess : Obligations.MdataAccess := by
  refine ⟨fun s running hi hfree => ?_, fun s running c hi hahead hturn => ?_⟩
  · have hat := windowTurn_at_once hfree
    exact ⟨congrArg _ (readMdata_turn hi hat), fun w => congrArg _ (writeMdata_turn w hi hat)⟩
  · have hafter := windowTurn_after_access hahead hturn
    dsimp only
    rw [← channelAccess_port c s, ← channelAccess_mptr c s]
    exact ⟨congrArg _ (readMdata_turn hi hafter), fun w => congrArg _ (writeMdata_turn w hi hafter)⟩

end Sys2Proof.Machine
end

section
/-! PROOFS. RESET#, INIT and the end of the clear sweep (R20, R107, R116 to R118, R203): the state each event leaves, and the way
from an assertion of RESET# to the reset state. -/

namespace Sys2Proof.Machine

/-! ### RESET# asserted (R116, R203) -/

/-- Every block at its reset values in a phase of the part and a bus state, with the words given, one more free value taken for
them (assumption 8) and what no reset touches (assumptions 12 and 14). -/
def State.resetValues (s : State) (p : PartPhase) (b : Bus) (m : Memory) : State :=
  { State.reset with
    part := p
    engine := { State.reset.engine with bus := b }
    xmem := { State.reset.xmem with mem := m }
    attn := { State.reset.attn with satn := s.attn.satn }
    port := { State.reset.port with readData := s.port.readData, rdyHeld := s.port.rdyHeld }
    free := s.free + 1
    pending := s.pending }

/-- A pin reset leaves the reset values and some words, whichever they are (assumption 8). -/
theorem pinReset_resetValues (s : State) :
    ∃ m, Memory.wf m ∧ pinReset s = s.resetValues .resetAsserted (.resetting 1 false) m := by
  refine ⟨Memory.ofWords (Config.undefinedWord s.free) 4096, Memory.ofWords_wf _ (Nat.le_refl _), ?_⟩
  unfold pinReset
  generalize Memory.ofWords (Config.undefinedWord s.free) 4096 = m
  rfl

theorem assertReset_held {s : State} (hp : s.part = .resetAsserted) (held : Nat) : assertReset held s = s := by
  rw [assertReset, hp]

theorem assertReset_taken {s : State} (hp : s.part ≠ .resetAsserted) (held : Nat) : assertReset held s = takeReset held s := by
  unfold assertReset
  split
  · next h => exact absurd h hp
  · rfl
  · rfl

/-- RESET# held for four CLKIN periods or more is a pin reset. -/
theorem assertReset_long {s : State} (hp : s.part ≠ .resetAsserted) {held : Nat} (h : 4 ≤ held) :
    assertReset held s = pinReset s :=
  (assertReset_taken hp held).trans (if_pos h)

/-- A shorter assertion has no effect or is a pin reset (assumption 9). -/
theorem assertReset_short {s : State} (hp : s.part ≠ .resetAsserted) {held : Nat} (h : held < 4) :
    assertReset held s = s.nextFree ∨ assertReset held s = pinReset s.nextFree := by
  rw [assertReset_taken hp, takeReset, if_neg (Nat.not_le.mpr h)]
  split
  · exact .inr rfl
  · exact .inl rfl

/-! ### RESET# deasserted and the end of the sweep (R107, R116, R118) -/

theorem deassertReset_held {s : State} (hp : s.part = .resetAsserted) :
    deassertReset s = { s with part := .init 0, engine := { s.engine with bus := .resetting 1 false } } := by
  rw [deassertReset, hp]
  rfl

theorem deassertReset_outside {s : State} (hp : s.part ≠ .resetAsserted) : deassertReset s = s := by
  unfold deassertReset
  split
  · next h => exact absurd h hp
  · rfl
  · rfl

theorem endSweep_init {s : State} {k : Nat} (hp : s.part = .init k) :
    endSweep s = { (endInterval s).setMem [] with part := .running } := by
  rw [endSweep, hp]

theorem endSweep_outside {s : State} (hp : ∀ k, s.part ≠ .init k) : endSweep s = s := by
  unfold endSweep
  split
  · next k h => exact absurd h (hp k)
  · rfl
  · rfl

/-- The sweep ends after the interval. -/
theorem endSweep_alone {s : State} {k : Nat} (hp : s.part = .init k) (hb : ∀ j f, s.engine.bus ≠ .resetting j f) :
    endSweep s = { s with part := .running, xmem := { s.xmem with mem := [] } } := by
  rw [endSweep_init hp, endInterval_outside (.inl hb)]
  rfl

/-- An interval that still stands ends with the sweep (assumption 4). -/
theorem endSweep_interval {s : State} {k j : Nat} {f : Bool} (hp : s.part = .init k) (hb : s.engine.bus = .resetting j f) :
    endSweep s =
      { s with
        part := .running
        engine := { s.engine with bus := .idle, divider := s.cfg.divider }
        xmem := { s.xmem with mem := [] } } := by
  rw [endSweep_init hp, endInterval_running hb (by simp [hp])]
  rfl

/-! ### From RESET# to the reset state (R117, R118, R199) -/

/-- At the reset values STATUS shows INIT and the bus state beside HALTED, no fault and the empty queues. -/
theorem resetValues_status (s : State) (p : PartPhase) (b : Bus) (m : Memory) (init : Bool) {w : Word}
    (hinit : (s.resetValues p b m).inInit = init)
    (hw : BitVec.ofBool init ++ RunState.halted.code ++ b.code ++ 0#1 ++ 0#5 ++ 0#5 = w) :
    windowRead (s.resetValues p b m) 0x01#5 = w := by
  rw [windowRead_status, ← hw, ← hinit]
  rfl

theorem deassertReset_resetValues (s : State) (m : Memory) :
    deassertReset (s.resetValues .resetAsserted (.resetting 1 false) m) = s.resetValues (.init 0) (.resetting 1 false) m :=
  deassertReset_held rfl

/-- The divider in effect is CONFIG's as written by the reset, 3, before and after the interval. -/
theorem endInterval_resetValues (s : State) (m : Memory) :
    endInterval (s.resetValues (.init 0) (.resetting 1 false) m) = s.resetValues (.init 0) .idle m :=
  endInterval_running rfl nofun

/-- The sweep's end leads to the reset state, whether or not the interval has ended by a row of its own. -/
theorem endSweep_resetValues (s : State) (m : Memory) {b : Bus} (hb : b = .resetting 1 false ∨ b = .idle) :
    endSweep (s.resetValues (.init 0) b m) = s.resetValues .running .idle [] := by
  obtain rfl | rfl := hb
  · exact endSweep_interval rfl rfl
  · exact endSweep_alone rfl nofun

/-- Settles O46: RESET# asserted by the periods it is held, the later events by the phase of the part and the interval. -/
theorem pinResetToResetState : Obligations.PinResetToResetState := by
  have outcome {t u : State} (h : t = u) : (.next t : Host.Outcome State Fault Refusal) = .next u := congrArg _ h
  refine ⟨fun s held => ⟨fun hp => congrArg _ (assertReset_held hp held), fun hp hlong => ?_, fun hp hshort => ?_⟩,
    fun s => ⟨fun hp => congrArg _ (deassertReset_held hp), fun hp => congrArg _ (deassertReset_outside hp),
      fun k hp => ⟨fun hb => congrArg _ (endSweep_alone hp hb), fun j f hb => congrArg _ (endSweep_interval hp hb)⟩,
      fun hp => congrArg _ (endSweep_outside hp), fun held hp hlong => ?_⟩⟩
  · obtain ⟨m, hm, hreset⟩ := pinReset_resetValues s
    exact ⟨m, hm, outcome ((assertReset_long hp hlong).trans hreset),
      resetValues_status s .resetAsserted (.resetting 1 false) m true rfl rfl⟩
  · refine (assertReset_short hp hshort).imp outcome fun hpin => ?_
    obtain ⟨m, hm, hreset⟩ := pinReset_resetValues s.nextFree
    exact ⟨m, hm, outcome (hpin.trans hreset)⟩
  · obtain ⟨m, -, hreset⟩ := pinReset_resetValues s
    exact ⟨s.resetValues .resetAsserted (.resetting 1 false) m, s.resetValues (.init 0) (.resetting 1 false) m,
      s.resetValues (.init 0) .idle m, outcome ((assertReset_long hp hlong).trans hreset), outcome (deassertReset_resetValues s m),
      resetValues_status s (.init 0) (.resetting 1 false) m true rfl rfl, outcome (endSweep_resetValues s m (.inl rfl)),
      outcome (endInterval_resetValues s m), resetValues_status s (.init 0) .idle m true rfl rfl,
      outcome (endSweep_resetValues s m (.inr rfl)), resetValues_status s .running .idle [] false rfl rfl⟩

end Sys2Proof.Machine
end

section
/-! PROOFS. Every step keeps the memory's canonical form and the profiles' ranges: what reaches the words and the profiles, and the
words and profiles it leaves there (R23, R25, R108). -/

namespace Sys2Proof.Machine

/-! ### What the two laws read -/

/-- The words and the profiles, which is all the two laws read of a state. -/
def State.stores (s : State) : Memory × Vector Profile 15 := (s.xmem.mem, s.profiles)

/-- The memory is canonical and the profiles are in the ranges PROF_APPLY checks (R25; assumption 11). -/
def StoresLegal (v : Memory × Vector Profile 15) : Prop := Memory.wf v.1 ∧ ∀ n : Station, (v.2[n]).legal = true

theorem storesLegal_iff (s : State) : StoresLegal s.stores ↔ MemoryCanonical s ∧ ProfilesLegal s := Iff.rfl

theorem stores_congr {s t : State} (hmem : t.xmem = s.xmem) (hprofiles : t.profiles = s.profiles) : t.stores = s.stores := by
  rw [State.stores, State.stores, hmem, hprofiles]

/-- A legal profile in a station's place keeps the law (R25). -/
theorem StoresLegal.set {m : Memory} {ps : Vector Profile 15} (h : StoresLegal (m, ps)) (n : Station) {p : Profile}
    (hp : p.legal = true) : StoresLegal (m, ps.set n p) := by
  obtain ⟨hm, hps⟩ := h
  refine ⟨hm, fun k => ?_⟩
  by_cases hk : n = k
  · subst hk
    simpa using hp
  · simpa [Vector.getElem_set, Fin.val_inj, hk] using hps k

/-- A canonical memory in the place of the words keeps the law. -/
theorem StoresLegal.withMemory {m m' : Memory} {ps : Vector Profile 15} (h : StoresLegal (m, ps)) (hm : Memory.wf m') :
    StoresLegal (m', ps) := ⟨hm, h.2⟩

/-- The profiles' reset values are legal (Table 1 of spec/02). -/
theorem storesLegal_reset {m : Memory} (hm : Memory.wf m) : StoresLegal (m, State.reset.profiles) :=
  ⟨hm, fun n => (congrArg Profile.legal (Vector.getElem_replicate n.isLt)).trans rfl⟩

/-! ### Operations that leave the words and the profiles -/

theorem setResult_stores (s : State) (r : Result) : (s.setResult r).stores = s.stores := rfl

theorem grantWord_stores (c : Channel) (s : State) : (grantWord c s).stores = s.stores := by
  unfold grantWord
  dsimp only
  split <;> rfl

theorem activate_stores (r : Request) (s : State) : (activate r s).stores = s.stores := by
  unfold activate
  dsimp only
  split <;> rfl

theorem grantRequest_stores (r : Request) (s : State) : (grantRequest r s).stores = s.stores := by
  have hactive := activate_stores r { s with engine := { s.engine with share := 0 } }
  unfold grantRequest
  dsimp only
  split
  · exact (stores_congr (retire_xmem _ _ _ _) (retire_profiles _ _ _ _)).trans hactive
  · split
    · exact hactive
    · exact hactive

theorem grantShared_stores (s : State) : (grantShared s).stores = s.stores := by
  unfold grantShared
  split
  · exact grantRequest_stores _ s
  · exact grantWord_stores _ s
  · split
    · exact grantWord_stores _ _
    · exact grantRequest_stores _ s
  · rfl

theorem deliver_stores (w : BusWork) (o : CycleOutcome) (s : State) : (deliver w o s).stores = s.stores := by
  unfold deliver resetAfterHang
  (repeat' split) <;> exact stores_congr (by simp) (by simp)

theorem beginWordCycle_stores (c : Channel) (s : State) : (beginWordCycle c s).stores = s.stores := by
  unfold beginWordCycle
  split
  · split <;> rfl
  · rfl

theorem onCycle_stores (f : BusWork → Cycle → Cycle) (s : State) : (onCycle f s).stores = s.stores := by
  unfold onCycle
  split
  · split <;> rfl
  · rfl
  · rfl

theorem storeLocation_stores (location : BitVec 5) (w : Word) (s : State) : (storeLocation location w s).stores = s.stores := by
  rw [storeLocation_frame]
  rfl

theorem endInterval_stores (s : State) : (endInterval s).stores = s.stores := by
  unfold endInterval
  split <;> rfl

theorem beginSettle_stores (s : State) : (beginSettle s).stores = s.stores := by
  unfold beginSettle
  split
  · rfl
  · split <;> rfl
  · rfl
  · rfl

theorem deassertReset_stores (s : State) : (deassertReset s).stores = s.stores := by
  unfold deassertReset
  split <;> rfl

theorem stopEngine_stores (s : State) : (stopEngine s).stores = s.stores := by
  unfold stopEngine
  (repeat' split) <;> rfl

theorem busResetCommand_stores (s : State) : (busResetCommand s).stores = s.stores := by
  unfold busResetCommand
  split
  · rfl
  · rw [setResult_stores]
    exact stores_congr (startBusReset_xmem s) (startBusReset_profiles s)

theorem clearRouted_stores (x : Source) (s : State) : (clearRouted x s).stores = s.stores := by
  unfold clearRouted
  (repeat' split) <;> rfl

theorem applySense_stores (x : Source) (s : State) : (applySense x s).stores = s.stores := by
  unfold applySense
  split <;> rfl

theorem takePending_stores (x : Source) (s : State) : (takePending x s).stores = s.stores := by
  unfold takePending
  (repeat' split) <;> rfl

theorem applySource_stores (s : State) : (applySource s).stores = s.stores := by
  unfold applySource
  split
  · rfl
  · split
    · rfl
    · split
      · rfl
      · refine (applySense_stores _ _).trans ?_
        split
        · rfl
        · exact clearRouted_stores _ s

theorem takeSource_stores (s : State) : (takeSource s).stores = s.stores := by
  unfold takeSource
  split
  · rfl
  · split
    · rfl
    · exact takePending_stores _ s

/-- Of the commands only PROF_APPLY and SOFT_RESET reach the words or the profiles. -/
theorem performCommand_stores {c : Instr} (hp : c ≠ .profApply) (hr : c ≠ .softReset) (s : State) :
    (performCommand c s).stores = s.stores := by
  cases c with
  | profApply => exact absurd rfl hp
  | softReset => exact absurd rfl hr
  | stop => exact stopEngine_stores s
  | busReset => exact busResetCommand_stores s
  | srcApply => exact applySource_stores s
  | take => exact takeSource_stores s
  | step =>
    simp only [performCommand, stepEngine]
    split <;> rfl
  | post | pop =>
    simp only [performCommand, postRequest, popCompletion]
    (repeat' split) <;> rfl
  | profLoad | srcLoad | endService =>
    simp only [performCommand, loadProfile, loadSource, endSource]
    (repeat' split) <;> rfl
  | arm | chStop | chAck =>
    simp only [performCommand, armChannel, stopChannel, ackChannel]
    (repeat' split) <;> rfl
  | run | flush | clearFault | unknownCmd | mdataRead | mdataWrite | configWrite | attnCfgWrite | windowWrite | resetAssert
  | resetDeassert | clearSweepEnd | satnAssertion | satnDeassertion | dispatchChoice | responseWindowExpiry | holdLimitReached
  | cycleEnd | busResetIntervalEnd | dividerTakesEffect | identifyIntervalLapse | settlePeriodsBegin | backoffExpiry | ccbLoad
  | channelCountStep | channelAddressStep | channelDataStep | channelRollback | inDataWrite | stationResponse | byteTransfer
  | senseSample | answerCheckSample => rfl

/-! ### Operations that write words or profiles -/

/-- PROF_APPLY stores only what it has checked (R25). -/
theorem applyProfile_storesLegal {s : State} (hs : StoresLegal s.stores) : StoresLegal (applyProfile s).stores := by
  unfold applyProfile
  split
  · exact hs
  · next n _ =>
    split
    · next hlegal =>
      have hset : StoresLegal (s.xmem.mem, s.profiles.set n s.port.prof) := StoresLegal.set hs n hlegal
      dsimp only
      split <;> exact hset
    · exact hs

theorem performCommand_storesLegal (c : Instr) {s : State} (hs : StoresLegal s.stores) :
    StoresLegal (performCommand c s).stores := by
  by_cases hp : c = .profApply
  · subst hp
    exact applyProfile_storesLegal hs
  · by_cases hr : c = .softReset
    · subst hr
      exact storesLegal_reset hs.1
    · rw [performCommand_stores hp hr]
      exact hs

theorem channelAccess_storesLegal (c : Channel) {s : State} (hs : StoresLegal s.stores) :
    StoresLegal (channelAccess c s).stores := by
  obtain ⟨hmem, hprofiles⟩ := (storesLegal_iff s).mp hs
  refine (storesLegal_iff _).mpr ⟨channelAccess_memory hmem, fun n => ?_⟩
  rw [channelAccess_profiles]
  exact hprofiles n

theorem serveSlots_storesLegal (inStep : ChState → Bool) (x : Service) {s : State} (hs : StoresLegal s.stores) :
    StoresLegal (serveSlots inStep x.channel x.slots s).stores :=
  serveSlots_keeps (P := fun t => StoresLegal t.stores) inStep x.channel x.slots (fun c _ => channelAccess_storesLegal c) hs

theorem windowTurn_storesLegal (running : Bool) {s : State} (hs : StoresLegal s.stores) :
    StoresLegal (windowTurn running s).stores := by
  unfold windowTurn
  split
  · exact channelAccess_storesLegal _ hs
  · exact hs

theorem readMdata_storesLegal (running : Bool) {s : State} (hs : StoresLegal s.stores) :
    StoresLegal (readMdata running s).stores := by
  unfold readMdata
  split
  · exact hs
  · exact windowTurn_storesLegal running hs

theorem writeMdata_storesLegal (data : Word) (running : Bool) {s : State} (hs : StoresLegal s.stores) :
    StoresLegal (writeMdata data running s).stores := by
  unfold writeMdata
  split
  · exact hs
  · have hturn := windowTurn_storesLegal running hs
    exact hturn.withMemory (Memory.write_wf hturn.1 _ data)

theorem windowCommand_storesLegal {body : State → State} {s : State} (hs : StoresLegal s.stores)
    (hb : StoresLegal (body s).stores) : StoresLegal (windowCommand body s).stores := by
  unfold windowCommand
  split
  · exact hs
  · exact hb

theorem unlessInit_stores {write : State → State} {s : State} (hw : (write s).stores = s.stores) :
    (unlessInit write s).stores = s.stores := by
  unfold unlessInit
  split
  · rfl
  · exact hw

theorem writeCmd_storesLegal (w : Word) {s : State} (hs : StoresLegal s.stores) : StoresLegal (writeCmd w s).stores := by
  unfold writeCmd
  split
  · exact performCommand_storesLegal _ hs
  · exact hs

theorem writeLocation_storesLegal (location : BitVec 5) (w : Word) {s : State} (hs : StoresLegal s.stores) :
    StoresLegal (writeLocation location w s).stores := by
  have plain {write : State → State} (hw : (write s).stores = s.stores) : StoresLegal (unlessInit write s).stores :=
    (unlessInit_stores hw).symm ▸ hs
  unfold writeLocation
  split
  · exact windowCommand_storesLegal hs (writeCmd_storesLegal w hs)
  · exact writeMdata_storesLegal w false hs
  · exact plain rfl
  · exact plain rfl
  · exact plain (storeLocation_stores location w s)

/-- Whatever words RESET# leaves, they are held in the canonical form (assumptions 8 and 11). -/
theorem pinReset_storesLegal (s : State) : StoresLegal (pinReset s).stores := by
  obtain ⟨m, hm, hreset⟩ := pinReset_resetValues s
  rw [hreset]
  exact storesLegal_reset hm

theorem assertReset_storesLegal (held : Nat) {s : State} (hs : StoresLegal s.stores) :
    StoresLegal (assertReset held s).stores := by
  have htake : StoresLegal (takeReset held s).stores := by
    unfold takeReset
    split
    · exact pinReset_storesLegal s
    · split
      · exact pinReset_storesLegal s.nextFree
      · exact hs
  unfold assertReset
  split
  · exact hs
  · exact htake
  · exact htake

theorem endSweep_storesLegal {s : State} (hs : StoresLegal s.stores) : StoresLegal (endSweep s).stores := by
  unfold endSweep
  split
  · have hend : StoresLegal (endInterval s).stores := (endInterval_stores s).symm ▸ hs
    exact hend.withMemory Memory.nil_wf
  · exact hs
  · exact hs

theorem sweepPeriod_memory {s : State} (hm : Memory.wf s.xmem.mem) : Memory.wf (sweepPeriod s).xmem.mem := by
  unfold sweepPeriod
  split
  · exact Memory.clear_wf hm _ _
  · exact hm
  · exact hm

theorem tick_profiles (s : State) : (tick s).profiles = s.profiles := by
  rw [tick_frame]

/-- The sweep clears words, and a period reaches no other word and no profile (R116). -/
theorem tick_storesLegal {s : State} (hs : StoresLegal s.stores) : StoresLegal (tick s).stores := by
  obtain ⟨hmem, hprofiles⟩ := hs
  obtain ⟨-, hxmem⟩ := tick_sweep s
  have hstores : (tick s).stores = ((sweepPeriod s).xmem.mem, s.profiles) := by
    rw [State.stores, hxmem, tick_profiles]
  rw [hstores]
  exact ⟨sweepPeriod_memory hmem, hprofiles⟩

/-! ### Every command and every step -/

/-- Every row keeps the law; the command rows are `performCommand` behind the INIT check. -/
theorem exec_storesLegal (i : Instr) {s : State} (hs : StoresLegal s.stores) :
    ∃ t, exec i s = .next t ∧ StoresLegal t.stores := by
  have command (c : Instr) : StoresLegal (windowCommand (performCommand c) s).stores :=
    windowCommand_storesLegal hs (performCommand_storesLegal c hs)
  have kept {t : State} (h : t.stores = s.stores) : StoresLegal t.stores := h.symm ▸ hs
  cases i with
  | run | stop | step | flush | busReset | clearFault | softReset | post | pop | profApply | profLoad | srcApply | srcLoad
  | take | endService | arm | chStop | chAck => exact ⟨_, exec_command rfl s, command _⟩
  | unknownCmd w => exact ⟨_, rfl, windowCommand_storesLegal hs (writeCmd_storesLegal w hs)⟩
  | mdataRead running => exact ⟨_, rfl, readMdata_storesLegal running hs⟩
  | mdataWrite data running => exact ⟨_, rfl, writeMdata_storesLegal data running hs⟩
  | configWrite | attnCfgWrite => exact ⟨_, rfl, kept (unlessInit_stores rfl)⟩
  | windowWrite location w => exact ⟨_, rfl, writeLocation_storesLegal location w hs⟩
  | resetAssert held => exact ⟨_, rfl, assertReset_storesLegal held hs⟩
  | resetDeassert => exact ⟨_, rfl, kept (deassertReset_stores s)⟩
  | clearSweepEnd => exact ⟨_, rfl, endSweep_storesLegal hs⟩
  | busResetIntervalEnd => exact ⟨_, rfl, kept (endInterval_stores s)⟩
  | settlePeriodsBegin => exact ⟨_, rfl, kept (beginSettle_stores s)⟩
  | satnAssertion | satnDeassertion | identifyIntervalLapse =>
    refine ⟨_, rfl, ?_⟩
    split <;> exact hs
  | backoffExpiry n =>
    refine ⟨_, rfl, ?_⟩
    unfold expireBackoff
    split <;> exact hs
  | dividerTakesEffect =>
    refine ⟨_, rfl, ?_⟩
    unfold applyDivider
    split <;> exact hs
  | dispatchChoice =>
    refine ⟨_, rfl, ?_⟩
    split
    · split
      · exact hs
      · exact kept (grantShared_stores s)
    · exact hs
  | responseWindowExpiry | holdLimitReached | stationResponse | byteTransfer | senseSample | answerCheckSample =>
    exact ⟨_, rfl, kept (onCycle_stores _ s)⟩
  | cycleEnd =>
    refine ⟨_, rfl, ?_⟩
    split
    · split
      · split
        · exact kept (deliver_stores _ _ (takeDivider s))
        · exact hs
      · exact hs
    · exact hs
    · exact hs
  | ccbLoad x | channelCountStep x | channelAddressStep x | channelRollback x | inDataWrite x =>
    exact ⟨_, rfl, serveSlots_storesLegal _ x hs⟩
  | channelDataStep x => exact ⟨_, rfl, (beginWordCycle_stores x.channel _).symm ▸ serveSlots_storesLegal _ x hs⟩

/-- Settles O52: the front command keeps the law row by row, an empty queue's period by the words the sweep clears. -/
theorem memoryAndProfilesStayLegal : Obligations.MemoryAndProfilesStayLegal := by
  intro s t hmem hprofiles hstep
  have hs : StoresLegal s.stores := (storesLegal_iff s).mpr ⟨hmem, hprofiles⟩
  refine (storesLegal_iff t).mp ?_
  unfold step at hstep
  split at hstep
  · cases hstep
    exact tick_storesLegal hs
  · next c rest _ =>
    obtain ⟨u, hu, hlegal⟩ := exec_storesLegal c (s := { s with pending := rest }) hs
    rw [hu] at hstep
    cases hstep
    exact hlegal

end Sys2Proof.Machine
end

section
/-! PROOFS. The law of the channel records (R123, R143) and of the bus work of their words (R84, R85, R90): what it says of each
channel, and the records that are legal. -/

namespace Sys2Proof.Machine

/-! ### What the law says of each channel -/

/-- The bus work is that of a word of this record: the channel is MOVING, in its cycle exactly while the work has one, and the work
is of its working control (R84, R85, R90). -/
structure BusWork.Carries (w : BusWork) (r : ChannelRec) : Prop where
  moving : r.state.isMoving = true
  cycle : w.cycle.isSome = true ↔ r.state = .moving .inCycle
  control : ∃ k, r.control = some k ∧ w.ofControl k = true

/-- A channel's part of the law: its record is legal, and bus work of its word is that of the record. -/
def ChannelFits (s : State) (d : Channel) : Prop :=
  (s.channels[d]).legal = true ∧ ∀ w, s.engine.bus = .cycle w → w.owner = .channel d → w.Carries s.channels[d]

theorem BusWork.carries_iff (w : BusWork) (r : ChannelRec) : w.Carries r ↔
    (r.state.isMoving && (w.cycle.isSome == (r.state == .moving .inCycle)) && (r.control.map w.ofControl).getD false) = true := by
  have hcycle : (w.cycle.isSome == (r.state == .moving .inCycle)) = true ↔
      (w.cycle.isSome = true ↔ r.state = .moving .inCycle) := by
    rw [beq_iff_eq, Bool.eq_iff_iff, beq_iff_eq]
  have hcontrol : (r.control.map w.ofControl).getD false = true ↔ ∃ k, r.control = some k ∧ w.ofControl k = true := by
    cases r.control <;> simp
  rw [Bool.and_eq_true, Bool.and_eq_true, hcycle, hcontrol]
  exact ⟨fun ⟨hm, hc, hk⟩ => ⟨⟨hm, hc⟩, hk⟩, fun ⟨⟨hm, hc⟩, hk⟩ => ⟨hm, hc, hk⟩⟩

theorem ownerMoving_iff (s : State) : ownerMoving s = true ↔
    ∀ d w, s.engine.bus = .cycle w → w.owner = .channel d → w.Carries s.channels[d] := by
  unfold ownerMoving
  split
  · next w hb =>
    split
    · next d ho =>
      rw [← BusWork.carries_iff]
      refine ⟨fun h e v hv he => ?_, fun h => h d w hb ho⟩
      obtain rfl : w = v := Bus.cycle.inj (hb.symm.trans hv)
      obtain rfl : d = e := Owner.channel.inj (ho.symm.trans he)
      exact h
    all_goals
      next ho =>
        refine ⟨fun _ e v hv he => ?_, fun _ => rfl⟩
        obtain rfl : w = v := Bus.cycle.inj (hb.symm.trans hv)
        exact nomatch ho.symm.trans he
  all_goals
    next hb => exact ⟨fun _ _ _ hv => (nomatch hb.symm.trans hv), fun _ => rfl⟩

theorem channelsLegal_iff (s : State) : ChannelsLegal s ↔ ∀ d : Channel, ChannelFits s d := by
  rw [ChannelsLegal, ownerMoving_iff]
  exact ⟨fun ⟨hl, hb⟩ d => ⟨hl d, hb d⟩, fun h => ⟨fun d => (h d).1, fun d => (h d).2⟩⟩

/-- The records and the bus state, which is all the law reads of a state. -/
def State.words (s : State) : Vector ChannelRec 4 × Bus := (s.channels, s.engine.bus)

theorem words_congr {s t : State} (hch : t.channels = s.channels) (hbus : t.engine.bus = s.engine.bus) : t.words = s.words := by
  rw [State.words, State.words, hch, hbus]

theorem channelsLegal_congr {s t : State} (hs : ChannelsLegal s) (h : t.words = s.words) : ChannelsLegal t := by
  obtain ⟨hch, hbus⟩ := Prod.mk.inj h
  rw [channelsLegal_iff] at hs ⊢
  unfold ChannelFits at hs ⊢
  rw [hch, hbus]
  exact hs

/-- Off a channel's work the law is that of the records alone. -/
theorem channelsLegal_offWords {s : State} (hl : ∀ d : Channel, (s.channels[d]).legal = true)
    (hb : ∀ w d, s.engine.bus = .cycle w → w.owner ≠ .channel d) : ChannelsLegal s :=
  (channelsLegal_iff s).mpr fun d => ⟨hl d, fun w hw ho => absurd ho (hb w d hw)⟩

theorem getElem_set_channel (v : Vector ChannelRec 4) (c d : Channel) (y : ChannelRec) :
    (v.set c y)[d] = if c = d then y else v[d] := by
  simp only [Fin.getElem_fin, Vector.getElem_set, Fin.val_inj]

/-- One channel takes a record: the others keep theirs, and bus work is kept or ended. -/
theorem channelsLegal_of_record {s t : State} {c : Channel} {y : ChannelRec} (h : ∀ d, d ≠ c → ChannelFits s d)
    (hch : t.channels = s.channels.set c y) (hbus : BusKeptOrEnded s t) (hy : y.legal = true)
    (hown : ∀ w, t.engine.bus = .cycle w → w.owner = .channel c → w.Carries y) : ChannelsLegal t := by
  refine (channelsLegal_iff t).mpr fun d => ?_
  unfold ChannelFits
  rw [hch, getElem_set_channel]
  by_cases hd : c = d
  · subst hd
    rw [if_pos rfl]
    exact ⟨hy, hown⟩
  · rw [if_neg hd]
    obtain ⟨hl, hcarries⟩ := h d (Ne.symm hd)
    refine ⟨hl, fun w hw => ?_⟩
    obtain hkept | ⟨-, hidle⟩ := hbus
    · exact hcarries w (hkept ▸ hw)
    · exact nomatch hidle.symm.trans hw

/-! ### Legal records -/

/-- What every step of a word has of its record, whatever it keeps. -/
structure ChannelRec.InWord (r : ChannelRec) : Prop where
  ccb : r.ccb.toNat ≤ 0xFFC
  defers : r.defers ≤ 14
  reason : r.reason = .none
  control : ∃ k, r.control = some k

/-- The two records are of one word: a step changes neither the CCB address nor the DEFER count, reason or working control. -/
def ChannelRec.SameWord (y r : ChannelRec) : Prop :=
  y.ccb = r.ccb ∧ y.defers = r.defers ∧ y.reason = r.reason ∧ y.control = r.control

theorem ChannelRec.InWord.of_sameWord {r y : ChannelRec} (h : r.InWord) (hsame : y.SameWord r) : y.InWord := by
  obtain ⟨hccb, hdefers, hreason, hcontrol⟩ := hsame
  exact ⟨hccb ▸ h.ccb, hdefers ▸ h.defers, hreason ▸ h.reason, hcontrol ▸ h.control⟩

theorem legal_moving_iff {r : ChannelRec} {x : WordStep} (hx : r.state = .moving x) :
    r.legal = true ↔ r.InWord ∧ r.keeps x = true := by
  simp only [ChannelRec.legal, hx, Bool.and_eq_true, decide_eq_true_eq, beq_iff_eq, Option.isSome_iff_exists]
  exact ⟨fun ⟨⟨hccb, _⟩, ⟨⟨hreason, hk⟩, hd⟩, hkeeps⟩ => ⟨⟨hccb, hd, hreason, hk⟩, hkeeps⟩,
    fun ⟨⟨hccb, hd, hreason, hk⟩, hkeeps⟩ => ⟨⟨hccb, hd.trans (by decide)⟩, ⟨⟨hreason, hk⟩, hd⟩, hkeeps⟩⟩

/-- The record of the same word at a step that keeps what it has is legal. -/
theorem nextStep_legal {r y : ChannelRec} {x : WordStep} (h : r.InWord) (hx : y.state = .moving x) (hsame : y.SameWord r)
    (hkeeps : y.keeps x = true) : y.legal = true :=
  (legal_moving_iff hx).mpr ⟨h.of_sameWord hsame, hkeeps⟩

/-- A LOADING record keeps nothing and has no reason. -/
theorem legal_loading_iff {r : ChannelRec} {l : LoadStep} (hl : r.state = .loading l) : r.legal = true ↔
    r.ccb.toNat ≤ 0xFFC ∧ r.defers ≤ 14 ∧ r.keptCount = none ∧ r.keptAddress = none ∧ r.reason = .none := by
  simp only [ChannelRec.legal, hl, Bool.and_eq_true, decide_eq_true_eq, beq_iff_eq, Option.isNone_iff_eq_none]
  exact ⟨fun ⟨⟨hccb, _⟩, ⟨⟨hv, ha⟩, hreason⟩, hd⟩ => ⟨hccb, hd, hv, ha, hreason⟩,
    fun ⟨hccb, hd, hv, ha, hreason⟩ => ⟨⟨hccb, hd.trans (by decide)⟩, ⟨⟨hv, ha⟩, hreason⟩, hd⟩⟩

theorem legal_active_iff {r : ChannelRec} (hx : r.state = .active) : r.legal = true ↔
    r.InWord ∧ r.stopRequested = false ∧ r.keptCount = none ∧ r.keptAddress = none := by
  simp only [ChannelRec.legal, hx, Bool.and_eq_true, decide_eq_true_eq, beq_iff_eq, Option.isNone_iff_eq_none,
    Option.isSome_iff_exists, Bool.not_eq_true']
  exact ⟨fun ⟨⟨hccb, _⟩, ⟨⟨⟨⟨hstop, hv⟩, ha⟩, hreason⟩, hk⟩, hd⟩ => ⟨⟨hccb, hd, hreason, hk⟩, hstop, hv, ha⟩,
    fun ⟨⟨hccb, hd, hreason, hk⟩, hstop, hv, ha⟩ => ⟨⟨hccb, hd.trans (by decide)⟩, ⟨⟨⟨⟨hstop, hv⟩, ha⟩, hreason⟩, hk⟩, hd⟩⟩

/-- Every legal record has a CCB address of at most FFCh and at most 15 DEFERs. -/
theorem bounds_of_legal {r : ChannelRec} (h : r.legal = true) : r.ccb.toNat ≤ 0xFFC ∧ r.defers ≤ 15 := by
  unfold ChannelRec.legal at h
  obtain ⟨hbounds, -⟩ := Bool.and_eq_true_iff.mp h
  obtain ⟨hccb, hdefers⟩ := Bool.and_eq_true_iff.mp hbounds
  exact ⟨of_decide_eq_true hccb, of_decide_eq_true hdefers⟩

theorem ends_faulted_legal {r : ChannelRec} {x : Reason} (hccb : r.ccb.toNat ≤ 0xFFC) (hdefers : r.defers ≤ 15)
    (hx : (WordEnd.fault x).legal = true) : (r.ends .faulted x).legal = true := by
  simp only [WordEnd.legal, Bool.and_eq_true] at hx
  obtain ⟨⟨hnone, hcomplete⟩, hstopped⟩ := hx
  simp [ChannelRec.legal, ChannelRec.ends, hccb, hdefers, hnone, hcomplete, hstopped]

theorem ends_ended_legal {r : ChannelRec} {x : Reason} (hccb : r.ccb.toNat ≤ 0xFFC) (hdefers : r.defers ≤ 15)
    (hx : x = .complete ∨ x = .stopped) : (r.ends .ended x).legal = true := by
  simp [ChannelRec.legal, ChannelRec.ends, hccb, hdefers, hx]

/-- The record of a channel whose work leaves it neither finished nor failed (R141, R145). -/
def ChannelRec.resumed (r : ChannelRec) (lost : Bool) : ChannelRec :=
  if r.stopRequested then r.ends .ended .stopped
  else if lost then r.ends .faulted .busReset
  else { r with state := .active, keptCount := none, keptAddress := none }

theorem resumed_legal {r : ChannelRec} (h : r.InWord) (lost : Bool) : (r.resumed lost).legal = true := by
  have hdefers : r.defers ≤ 15 := h.defers.trans (by decide)
  unfold ChannelRec.resumed
  split
  · exact ends_ended_legal h.ccb hdefers (.inr rfl)
  · next hstop =>
    split
    · exact ends_faulted_legal h.ccb hdefers rfl
    · exact (legal_active_iff rfl).mpr ⟨⟨h.ccb, h.defers, h.reason, h.control⟩, by simpa using hstop, rfl, rfl⟩

/-- The record with one DEFER more. -/
def ChannelRec.deferred (r : ChannelRec) : ChannelRec := { r with defers := r.defers + 1 }

/-- The record of a channel that handles its DEFER under its station's limit (R135). -/
def ChannelRec.afterDefer (r : ChannelRec) (limit : Nat) (lost : Bool) : ChannelRec :=
  if limit ≤ r.defers + 1 then r.deferred.ends .faulted .deferLimit else r.deferred.resumed lost

theorem afterDefer_legal {r : ChannelRec} (h : r.InWord) {limit : Nat} (hlimit : limit ≤ 15) (lost : Bool) :
    (r.afterDefer limit lost).legal = true := by
  unfold ChannelRec.afterDefer
  split
  · exact ends_faulted_legal h.ccb (Nat.succ_le_succ h.defers) rfl
  · next hbelow =>
    have hdefers : r.deferred.defers ≤ 14 := by
      have hlt : r.defers + 1 < limit := Nat.not_le.mp hbelow
      exact Nat.lt_succ_iff.mp (hlt.trans_le hlimit)
    have hword : r.deferred.InWord := ⟨h.ccb, hdefers, h.reason, h.control⟩
    exact resumed_legal hword lost

/-- The next record after an ACK is legal: a followed link is checked first (R134, R138). -/
theorem afterAck_legal {r : ChannelRec} (h : r.InWord) (k : Control) (lost : Bool) : (r.afterAck k lost).legal = true := by
  have hnew : ({ r with defers := 0 } : ChannelRec).InWord := ⟨h.ccb, Nat.zero_le _, h.reason, h.control⟩
  unfold ChannelRec.afterAck
  dsimp only
  split
  · split
    · split
      · exact ends_faulted_legal h.ccb (Nat.zero_le _) rfl
      · next hlink =>
        have hccb : ((r.link.getD 0).extractLsb' 0 12).toNat ≤ 0xFFC := by
          rw [BitVec.extractLsb'_toNat, Nat.shiftRight_zero]
          exact (Nat.mod_le _ _).trans (Nat.not_lt.mp hlink)
        split
        · exact ends_faulted_legal hccb (Nat.zero_le _) rfl
        · exact (legal_loading_iff rfl).mpr ⟨hccb, Nat.zero_le _, rfl, rfl, h.reason⟩
    · exact ends_ended_legal h.ccb (Nat.zero_le _) (.inl rfl)
  · exact resumed_legal hnew lost

/-- A bus reset leaves every record legal (R146). -/
theorem atReset_legal {r : ChannelRec} (h : r.legal = true) : r.atReset.legal = true := by
  obtain ⟨hccb, hdefers⟩ := bounds_of_legal h
  unfold ChannelRec.atReset
  split
  · exact ends_faulted_legal hccb hdefers rfl
  · exact h

end Sys2Proof.Machine
end

section
/-! PROOFS. A channel's word keeps the law: each of its steps goes on with another, or ends it with a legal record (R130 to R145). -/

namespace Sys2Proof.Machine

/-! ### A word under way -/

/-- The channel's word is under way outside its cycle: its record may stand in any step, the other channels fit, and where the
word holds the bus its work is of the working control. -/
structure WordUnderWay (c : Channel) (s : State) : Prop where
  others : ∀ d, d ≠ c → ChannelFits s d
  record : (s.channels[c]).InWord
  bus : ∀ w, s.engine.bus = .cycle w → w.owner = .channel c →
    w.cycle = none ∧ ∃ k, (s.channels[c]).control = some k ∧ w.ofControl k = true

section
variable {s t : State} {c : Channel} {y : ChannelRec}

theorem ChannelsLegal.record (h : ChannelsLegal s) (c : Channel) : (s.channels[c]).legal = true := h.1 c

/-- A MOVING channel outside its cycle has its word under way. -/
theorem ChannelsLegal.wordUnderWay (h : ChannelsLegal s) {x : WordStep} (hx : (s.channels[c]).state = .moving x)
    (hn : x ≠ .inCycle ∨ s.busy = false) : WordUnderWay c s := by
  have hfits := (channelsLegal_iff s).mp h
  refine ⟨fun d _ => hfits d, ((legal_moving_iff hx).mp (h.record c)).1, fun w hb ho => ?_⟩
  have hout : x ≠ .inCycle := hn.resolve_right fun hbusy => by simp [State.busy, hb] at hbusy
  obtain ⟨-, hcycle, hk⟩ := (hfits c).2 w hb ho
  rw [hx] at hcycle
  refine ⟨?_, hk⟩
  rw [← Option.not_isSome_iff_eq_none, hcycle]
  exact fun he => hout (ChState.moving.inj he)

/-- The channel may take another record of the same word. -/
theorem WordUnderWay.setChannel (h : WordUnderWay c s) (hsame : y.SameWord s.channels[c]) :
    WordUnderWay c (s.setChannel c y) where
  others d hd := by
    have hrec : (s.setChannel c y).channels[d] = s.channels[d] :=
      (getElem_set_channel _ _ _ _).trans (if_neg (Ne.symm hd))
    unfold ChannelFits
    rw [hrec]
    exact h.others d hd
  record := by rw [setChannel_channel]; exact h.record.of_sameWord hsame
  bus w hb ho := by
    obtain ⟨-, -, -, hk⟩ := hsame
    rw [setChannel_channel, hk]
    exact h.bus w hb ho

/-- The word goes on with another step. -/
theorem WordUnderWay.goesOn (h : WordUnderWay c s) {x : WordStep} (hch : t.channels = s.channels.set c y)
    (hbus : t.engine.bus = s.engine.bus) (hx : y.state = .moving x) (hn : x ≠ .inCycle)
    (hsame : y.SameWord s.channels[c]) (hkeeps : y.keeps x = true) : ChannelsLegal t := by
  obtain ⟨-, -, -, hk⟩ := id hsame
  refine channelsLegal_of_record h.others hch (.inl hbus) (nextStep_legal h.record hx hsame hkeeps) fun w hw ho => ?_
  obtain ⟨hcycle, hcontrol⟩ := h.bus w (hbus ▸ hw) ho
  refine ⟨by rw [hx]; rfl, ?_, by rw [hk]; exact hcontrol⟩
  rw [hcycle, hx]
  exact ⟨fun he => (nomatch he), fun he => absurd (ChState.moving.inj he) hn⟩

/-- The release of the bus ends the channel's own bus work and no other. -/
theorem releaseBus_engine_bus (c : Channel) (s : State) :
    (releaseBus c s).engine.bus = if ownsBus c s then .idle else s.engine.bus := by
  unfold releaseBus
  split
  · exact endBusWork_engine_bus s
  · rfl

/-- Of a channel that has released the bus no work is on it. -/
theorem releaseBus_owner {w : BusWork} (hw : (releaseBus c s).engine.bus = .cycle w) : w.owner ≠ .channel c := by
  rw [releaseBus_engine_bus] at hw
  split at hw
  · cases hw
  · next hown =>
    intro ho
    simp [ownsBus, hw, ho] at hown

/-- The word ends: its bus work, where it still holds the bus, and its channel takes its next record. -/
theorem WordUnderWay.ends (h : WordUnderWay c s) (hch : t.channels = s.channels.set c y)
    (hbus : t.engine.bus = (releaseBus c s).engine.bus) (hy : y.legal = true) : ChannelsLegal t :=
  channelsLegal_of_record h.others hch ((releaseBus_busKeptOrEnded c s).congr rfl hbus) hy
    fun _ hw ho => absurd ho (releaseBus_owner (hbus ▸ hw))

/-! ### The ends of a word -/

theorem resumeOrStop_takes_resumed (c : Channel) (lost : Bool) (s : State) :
    resumeOrStop c lost s = s.takesRecord c ((s.channels[c]).resumed lost) := by
  unfold resumeOrStop ChannelRec.resumed
  rw [enterEnded_takes, enterFaulted_takes]
  dsimp only
  split
  · rfl
  · split
    · rfl
    · exact (takesRecord_of_not_faulted rfl).symm

theorem handleChannelDefer_eq {k : Control} (elapsed : Nat) (lost : Bool) (hk : (s.channels[c]).control = some k) :
    handleChannelDefer c elapsed lost s =
      if (s.profiles[k.station]).deferLimit.toNat ≤ (s.channels[c]).defers + 1 then
        enterFaulted c .deferLimit (s.setChannel c (s.channels[c]).deferred)
      else if lost then resumeOrStop c true (s.setChannel c (s.channels[c]).deferred)
      else resumeOrStop c false ((s.setBackoff k.station
        (some (max 1 (8 * (s.profiles[k.station]).retryInterval.toNat - elapsed)))).setChannel c (s.channels[c]).deferred) := by
  unfold handleChannelDefer
  dsimp only
  split
  · next hnone => exact nomatch hnone.symm.trans hk
  · next k' hk' =>
    obtain rfl : k = k' := Option.some.inj (hk.symm.trans hk')
    rfl

/-- At the limit the channel faults, and no timer starts; nor where a bus reset has ended the bus work (R135, R145). -/
theorem handleChannelDefer_untimed {k : Control} {lost : Bool} (elapsed : Nat) (hk : (s.channels[c]).control = some k)
    (h : (s.profiles[k.station]).deferLimit.toNat ≤ (s.channels[c]).defers + 1 ∨ lost = true) :
    handleChannelDefer c elapsed lost s =
      s.takesRecord c ((s.channels[c]).afterDefer (s.profiles[k.station]).deferLimit.toNat lost) := by
  rw [handleChannelDefer_eq elapsed lost hk, ChannelRec.afterDefer]
  split
  · rw [enterFaulted_takes, setChannel_channel, setChannel_takesRecord]
  · next hbelow =>
    obtain rfl : lost = true := h.resolve_left hbelow
    rw [if_pos rfl, resumeOrStop_takes_resumed, setChannel_channel, setChannel_takesRecord]

/-- Below the limit the station's timer starts (R55, R135; assumption 17). -/
theorem handleChannelDefer_timed {k : Control} (elapsed : Nat) (hk : (s.channels[c]).control = some k)
    (h : (s.channels[c]).defers + 1 < (s.profiles[k.station]).deferLimit.toNat) :
    handleChannelDefer c elapsed false s =
      (s.setBackoff k.station (some (max 1 (8 * (s.profiles[k.station]).retryInterval.toNat - elapsed)))).takesRecord c
        ((s.channels[c]).afterDefer (s.profiles[k.station]).deferLimit.toNat false) := by
  have hbelow : ¬ (s.profiles[k.station]).deferLimit.toNat ≤ (s.channels[c]).defers + 1 := Nat.not_le.mpr h
  rw [handleChannelDefer_eq elapsed false hk, ChannelRec.afterDefer, if_neg hbelow, if_neg hbelow, if_neg Bool.false_ne_true,
    resumeOrStop_takes_resumed, setChannel_channel, setChannel_takesRecord]

theorem handleChannelDefer_channels {k : Control} (elapsed : Nat) (lost : Bool) (hk : (s.channels[c]).control = some k) :
    (handleChannelDefer c elapsed lost s).channels =
      s.channels.set c ((s.channels[c]).afterDefer (s.profiles[k.station]).deferLimit.toNat lost) := by
  by_cases h : (s.profiles[k.station]).deferLimit.toNat ≤ (s.channels[c]).defers + 1 ∨ lost = true
  · rw [handleChannelDefer_untimed elapsed hk h]
    rfl
  · obtain ⟨hbelow, hlost⟩ := not_or.mp h
    obtain rfl : lost = false := by simpa using hlost
    rw [handleChannelDefer_timed elapsed hk (Nat.not_le.mp hbelow)]
    rfl

theorem leaveMoving_channelsLegal (h : WordUnderWay c s) {e : WordEnd} (he : e.legal = true) :
    ChannelsLegal (leaveMoving c e s) := by
  have hrec : (releaseBus c s).channels[c] = s.channels[c] := by rw [releaseBus_channels]
  cases e with
  | fault x =>
    refine h.ends (y := (s.channels[c]).ends .faulted x) ?_ (leaveMoving_engine_bus c _ s)
      (ends_faulted_legal h.record.ccb (h.record.defers.trans (by decide)) he)
    rw [leaveMoving, enterFaulted_takes, hrec, ← releaseBus_channels c s]
    rfl
  | defer elapsed =>
    obtain ⟨k, hk⟩ := h.record.control
    refine h.ends (y := (s.channels[c]).afterDefer (s.profiles[k.station]).deferLimit.toNat (!ownsBus c s)) ?_
      (leaveMoving_engine_bus c _ s) (afterDefer_legal h.record (Nat.lt_succ_iff.mp (BitVec.isLt _)) _)
    rw [leaveMoving, handleChannelDefer_channels elapsed _ (by rw [hrec]; exact hk), hrec, releaseBus_channels,
      releaseBus_profiles]

/-- A rollback begins with the count, where one is kept (R137). -/
theorem startRollback_channelsLegal (h : WordUnderWay c s) {e : WordEnd} (he : e.legal = true) :
    ChannelsLegal (startRollback c e s) := by
  cases hv : (s.channels[c]).keptCount with
  | none =>
    simp only [startRollback, hv]
    exact leaveMoving_channelsLegal h he
  | some v =>
    rw [startRollback_kept e hv]
    have hcount : (s.channels[c]).keptCount.isSome = true := by rw [hv]; rfl
    exact h.goesOn (x := .rollCount e) rfl rfl rfl (fun hn => nomatch hn) ⟨rfl, rfl, rfl, rfl⟩
      (Bool.and_eq_true_iff.mpr ⟨hcount, he⟩)

theorem channelAck_channelsLegal (h : WordUnderWay c s) : ChannelsLegal (channelAck c s) := by
  obtain ⟨k, hk⟩ := h.record.control
  rw [channelAck_takes hk]
  refine h.ends ?_ ?_ (afterAck_legal h.record k (!ownsBus c s))
  · change (releaseBus c { s with attn := s.attn.consumed k }).channels.set c _ = _
    rw [releaseBus_channels]
  · change (releaseBus c { s with attn := s.attn.consumed k }).engine.bus = _
    rw [releaseBus_engine_bus, releaseBus_engine_bus]
    rfl

/-- The data address of the word is in the memory, and its count and address are kept (R122, R131). -/
def ChannelRec.InMemory (r : ChannelRec) (k : Control) : Prop :=
  r.keptCount.isSome = true ∧ r.keptAddress.isSome = true ∧ r.control = some k ∧ dataAddress r k ≤ 0xFFF

/-- From the address write to the IN word's write a step keeps the same. -/
theorem keeps_inMemory_iff {r : ChannelRec} {x : WordStep}
    (hx : x = .addrWrite ∨ x = .outRead ∨ (∃ d, x = .ask d) ∨ x = .inCycle ∨ ∃ d, x = .inWrite d) :
    r.keeps x = true ↔ ∃ k, r.InMemory k := by
  have hin : r.keeps .inCycle = true ↔ ∃ k, r.InMemory k := by
    unfold ChannelRec.InMemory
    cases hk : r.control <;> simp [ChannelRec.keeps, hk, and_assoc]
  obtain rfl | rfl | ⟨d, rfl⟩ | rfl | ⟨d, rfl⟩ := hx <;> exact hin

/-- The ACK of an OUT word ends it (R134). -/
theorem channelOutcome_ack_out {k : Control} (data : Option Word) (hk : (s.channels[c]).control = some k) (hout : k.out = true) :
    channelOutcome c (.ack data) s = channelAck c s := by
  simp only [channelOutcome, hk, hout, if_true]

/-- The ACK of an IN word goes on to its memory write (R134). -/
theorem channelOutcome_ack_in {k : Control} (data : Option Word) (hk : (s.channels[c]).control = some k) (hin : k.out = false) :
    channelOutcome c (.ack data) s = s.setChannel c { s.channels[c] with state := .moving (.inWrite (data.getD 0)) } := by
  unfold channelOutcome
  dsimp only
  split
  · next hnone => exact nomatch hnone.symm.trans hk
  · next k' hk' =>
    obtain rfl : k = k' := Option.some.inj (hk.symm.trans hk')
    rw [hin]
    rfl

/-- An outcome of a channel's cycle is an end of the word, or takes an IN word to its write (R133 to R136). -/
theorem channelOutcome_channelsLegal (h : WordUnderWay c s) (hkeeps : (s.channels[c]).keeps .inCycle = true) {o : CycleOutcome}
    (hnone : ChannelsLegal s ∨ ((∀ a, o ≠ .answer a) ∧ o ≠ .identifyParity)) : ChannelsLegal (channelOutcome c o s) := by
  cases o with
  | ack data =>
    obtain ⟨k, hk⟩ := h.record.control
    cases hout : k.out with
    | true =>
      rw [channelOutcome_ack_out data hk hout]
      exact channelAck_channelsLegal h
    | false =>
      have hin := (keeps_inMemory_iff (.inr (.inr (.inr (.inl rfl))))).mp hkeeps
      rw [channelOutcome_ack_in data hk hout]
      exact h.goesOn rfl rfl rfl (fun hn => nomatch hn) ⟨rfl, rfl, rfl, rfl⟩
        ((keeps_inMemory_iff (.inr (.inr (.inr (.inr ⟨_, rfl⟩))))).mpr hin)
  | defer | noResponse | protocol | parity | busHang | cut => exact startRollback_channelsLegal h rfl
  | answer a => exact hnone.resolve_right fun hn => hn.1 a rfl
  | identifyParity => exact hnone.resolve_right fun hn => hn.2 rfl

end

/-! ### The start of a bus reset (R104, R145, R146) -/

/-- In the interval the channel goes on with a rollback, its fault or the IN word's write. -/
theorem wordMeetsReset_channelsLegal {s : State} (h : ChannelsLegal s) (hb : s.busy = false) (c : Channel) (n : Option Station) :
    ChannelsLegal (wordMeetsReset c n s) := by
  have cut {x : WordStep} (hx : (s.channels[c]).state = .moving x) : ChannelsLegal (channelOutcome c .cut s) :=
    startRollback_channelsLegal (h.wordUnderWay hx (.inr hb)) rfl
  have written : ChannelsLegal (writeFault .busHang n s) :=
    channelsLegal_congr h (words_congr (writeFault_channels _ _ _) (writeFault_engine_bus _ _ _))
  unfold wordMeetsReset
  split
  case h_1 hx | h_2 hx | h_3 hx | h_4 hx | h_5 hx | h_6 hx | h_7 hx | h_8 hx => exact cut hx
  case h_10 | h_11 => exact written
  all_goals exact h

theorem interrupted_channelsLegal {s : State} (h : ChannelsLegal s) : ChannelsLegal s.interrupted := by
  refine channelsLegal_offWords (fun d => ?_) fun w d hw => ?_
  · rw [interrupted_channels]
    exact h.record d
  · have hbus : s.interrupted.engine.bus = resettingFrom s := workEnded_engine_bus _
    exact nomatch hbus.symm.trans hw

theorem ownerMeetsReset_channelsLegal {s : State} (h : ChannelsLegal s) {w : BusWork} (hb : s.engine.bus = .cycle w) :
    ChannelsLegal (ownerMeetsReset w s.interrupted) := by
  have hi := interrupted_channelsLegal h
  unfold ownerMeetsReset
  split
  · exact channelsLegal_congr hi (words_congr (by simp) (by simp))
  · next c _ ho hcycle =>
    have hx : (s.channels[c]).state = .moving .inCycle := by
      obtain ⟨-, hcarries⟩ := (channelsLegal_iff s).mp h c
      exact (hcarries w hb ho).cycle.mp (by rw [hcycle]; rfl)
    rw [← interrupted_channel] at hx
    obtain ⟨-, hkeeps⟩ := (legal_moving_iff hx).mp (hi.record c)
    refine channelsLegal_congr (channelOutcome_channelsLegal (hi.wordUnderWay hx (.inr (interrupted_busy s))) hkeeps (.inl hi))
      (words_congr (writeCycleFault_channels _ _ _) (writeCycleFault_engine_bus _ _ _))
  · exact wordMeetsReset_channelsLegal hi (interrupted_busy s) _ _
  · exact channelsLegal_congr hi (words_congr (by simp) (by simp))
  · exact hi
  · exact hi

/-- Every owner takes its effects: the records stay legal, and no work is on the bus. -/
theorem startBusReset_channelsLegal {s : State} (h : ChannelsLegal s) : ChannelsLegal (startBusReset s) := by
  have others {u : State} (hu : ChannelsLegal u) (hb : u.engine.bus = resettingFrom s) :
      ChannelsLegal (clearAttention (channelsMeetReset (requestsMeetReset u))) := by
    rw [owners_meet_reset hb]
    refine channelsLegal_offWords (fun d => ?_) fun _ _ hw => nomatch hw
    have hrec : (u.channels.map ChannelRec.atReset)[d] = (u.channels[d]).atReset := Vector.getElem_map _ _
    exact (congrArg ChannelRec.legal hrec).trans (atReset_legal (hu.record d))
  have onBus : ChannelsLegal (s.setBus (resettingFrom s)) := channelsLegal_offWords h.record fun _ _ hw => nomatch hw
  unfold startBusReset
  dsimp only
  split
  · next w hb =>
    exact others (ownerMeetsReset_channelsLegal h hb)
      ((ownerMeetsReset_busKeptOrEnded w _).of_resetting (workEnded_engine_bus _))
  · exact others onBus rfl
  · exact others onBus rfl

end Sys2Proof.Machine
end

section
/-! PROOFS. Every command and every period keeps the law of the channel records. -/

namespace Sys2Proof.Machine

/-! ### Memory accesses (R113, R126 to R137) -/

section
variable {s : State} {c : Channel}

/-- The range check of a word whose data address is in the memory (R132). -/
theorem rangeCheck_channelsLegal (h : WordUnderWay c s) {k : Control} (hin : (s.channels[c]).InMemory k) :
    ChannelsLegal (rangeCheck c k s) := by
  unfold rangeCheck
  dsimp only
  split
  · exact startRollback_channelsLegal h rfl
  · split
    · exact startRollback_channelsLegal h rfl
    · refine h.goesOn (x := if k.out then .outRead else .ask none) rfl rfl rfl ?_ ⟨rfl, rfl, rfl, rfl⟩ ?_
      · split <;> exact fun hn => nomatch hn
      · refine (keeps_inMemory_iff ?_).mpr ⟨k, hin⟩
        split
        · exact .inr (.inl rfl)
        · exact .inr (.inr (.inl ⟨_, rfl⟩))

/-- The end of a rollback; after a hang the automatic bus reset follows (R102, R137). -/
theorem finishRollback_channelsLegal (h : WordUnderWay c s) {e : WordEnd} (he : e.legal = true) :
    ChannelsLegal (finishRollback c e s) := by
  have hleft := leaveMoving_channelsLegal h he
  unfold finishRollback
  dsimp only
  split
  · exact startBusReset_channelsLegal
      (channelsLegal_congr hleft (words_congr (writeFault_channels _ _ _) (writeFault_engine_bus _ _ _)))
  · exact hleft

theorem WordUnderWay.setMem (h : WordUnderWay c s) (m : Memory) : WordUnderWay c (s.setMem m) :=
  ⟨h.others, h.record, h.bus⟩

/-- A word step's access leads to the next step with what that step keeps, or to the word's end. -/
theorem wordAccess_channelsLegal (h : ChannelsLegal s) {k : Control} {x : WordStep} (hx : (s.channels[c]).state = .moving x)
    (hk : (s.channels[c]).control = some k) : ChannelsLegal (wordAccess c k x s) := by
  obtain ⟨hword, hkeeps⟩ := (legal_moving_iff hx).mp (h.record c)
  have underWay (hn : x ≠ .inCycle) : WordUnderWay c s := h.wordUnderWay hx (.inl hn)
  cases x with
  | ask | inCycle => exact h
  | countRead =>
    obtain ⟨-, haddr⟩ := Bool.and_eq_true_iff.mp hkeeps
    refine (underWay fun hn => nomatch hn).goesOn rfl rfl rfl ?_ ⟨rfl, rfl, rfl, rfl⟩ ?_
    · split <;> exact fun hn => nomatch hn
    · split <;> exact haddr
  | countWrite =>
    exact (underWay fun hn => nomatch hn).goesOn (x := .addrRead) rfl rfl rfl (fun hn => nomatch hn) ⟨rfl, rfl, rfl, rfl⟩ hkeeps
  | zeroAddrRead =>
    have hread (w : Word) : WordUnderWay c (s.setChannel c { s.channels[c] with keptAddress := some w }) :=
      (underWay fun hn => nomatch hn).setChannel ⟨rfl, rfl, rfl, rfl⟩
    exact startRollback_channelsLegal (hread _) rfl
  | addrRead =>
    obtain ⟨hcount, -⟩ := Bool.and_eq_true_iff.mp hkeeps
    have hread (w : Word) : WordUnderWay c (s.setChannel c { s.channels[c] with keptAddress := some w }) :=
      (underWay fun hn => nomatch hn).setChannel ⟨rfl, rfl, rfl, rfl⟩
    have hin {w : Word} (haddr : ¬ 0xFFF < dataAddress { s.channels[c] with keptAddress := some w } k) :
        ({ s.channels[c] with keptAddress := some w } : ChannelRec).InMemory k := ⟨hcount, rfl, hk, Nat.not_lt.mp haddr⟩
    simp only [wordAccess]
    split
    · exact startRollback_channelsLegal (hread _) rfl
    · next haddr =>
      split
      · exact rangeCheck_channelsLegal (hread _) (by rw [setChannel_channel]; exact hin haddr)
      · rw [setChannel_setChannel]
        exact (underWay fun hn => nomatch hn).goesOn rfl rfl rfl (fun hn => nomatch hn) ⟨rfl, rfl, rfl, rfl⟩
          ((keeps_inMemory_iff (.inl rfl)).mpr ⟨k, hin haddr⟩)
  | addrWrite =>
    obtain ⟨k', hcount, haddr, hk', hle⟩ := (keeps_inMemory_iff (.inl rfl)).mp hkeeps
    obtain rfl : k = k' := Option.some.inj (hk.symm.trans hk')
    exact rangeCheck_channelsLegal ((underWay fun hn => nomatch hn).setMem _) ⟨hcount, haddr, hk', hle⟩
  | outRead =>
    have hin := (keeps_inMemory_iff (.inr (.inl rfl))).mp hkeeps
    exact (underWay fun hn => nomatch hn).goesOn rfl rfl rfl (fun hn => nomatch hn) ⟨rfl, rfl, rfl, rfl⟩
      ((keeps_inMemory_iff (.inr (.inr (.inl ⟨_, rfl⟩)))).mpr hin)
  | inWrite data => exact channelAck_channelsLegal ((underWay fun hn => nomatch hn).setMem _)
  | rollCount e =>
    obtain ⟨hcount, he⟩ := Bool.and_eq_true_iff.mp hkeeps
    have hunder := underWay fun hn => nomatch hn
    simp only [wordAccess]
    split
    · exact finishRollback_channelsLegal (hunder.setMem _) he
    · next a ha =>
      have haddr : (s.channels[c]).keptAddress.isSome = true := by rw [ha]; rfl
      exact hunder.goesOn (x := .rollAddr e) rfl rfl rfl (fun hn => nomatch hn) ⟨rfl, rfl, rfl, rfl⟩
        (Bool.and_eq_true_iff.mpr ⟨Bool.and_eq_true_iff.mpr ⟨hcount, haddr⟩, he⟩)
  | rollAddr e =>
    obtain ⟨-, he⟩ := Bool.and_eq_true_iff.mp hkeeps
    exact finishRollback_channelsLegal ((underWay fun hn => nomatch hn).setMem _) he

/-- A channel that is not MOVING, and stays so, takes a legal record: it has no work on the bus. -/
theorem ChannelsLegal.setChannel_offBus {y : ChannelRec} {t : State} (h : ChannelsLegal s)
    (hx : (s.channels[c]).state.isMoving = false) (hch : t.channels = s.channels.set c y)
    (hbus : t.engine.bus = s.engine.bus) (hy : y.legal = true) : ChannelsLegal t := by
  have hfits := (channelsLegal_iff s).mp h
  refine channelsLegal_of_record (fun d _ => hfits d) hch (.inl hbus) hy fun w hw ho => ?_
  have hmoving := ((hfits c).2 w (hbus ▸ hw) ho).moving
  rw [hx] at hmoving
  cases hmoving

/-- The checks of a LOAD have no reason but those of R127. -/
theorem loadCheck_legal {control count : Word} {x : Reason} (h : loadCheck s c control count = .error x) :
    (WordEnd.fault x).legal = true := by
  unfold loadCheck at h
  (repeat' split at h) <;> cases h <;> rfl

/-- A LOAD goes on with its next read, or ends with a legal record (R126, R127, R141). -/
theorem loadAccess_channelsLegal (h : ChannelsLegal s) {l : LoadStep} (hl : (s.channels[c]).state = .loading l) :
    ChannelsLegal (loadAccess c l s) := by
  have hx : (s.channels[c]).state.isMoving = false := by rw [hl]; rfl
  obtain ⟨hccb, hdefers, hcount, haddr, hreason⟩ := (legal_loading_iff hl).mp (h.record c)
  cases l with
  | control | count =>
    exact h.setChannel_offBus hx rfl rfl ((legal_loading_iff rfl).mpr ⟨hccb, hdefers, hcount, haddr, hreason⟩)
  | link control count =>
    simp only [loadAccess, finishLoad]
    split
    · next x hcheck =>
      rw [enterFaulted_takes]
      exact h.setChannel_offBus hx rfl rfl (ends_faulted_legal hccb (hdefers.trans (by decide)) (loadCheck_legal hcheck))
    · next k _ =>
      rw [resumeOrStop_takes_resumed, setChannel_channel, setChannel_takesRecord]
      have hloaded (link : Word) : ({ s.channels[c] with control := some k, link := some link } : ChannelRec).InWord :=
        ⟨hccb, hdefers, hreason, k, rfl⟩
      exact h.setChannel_offBus hx rfl rfl (resumed_legal (hloaded _) false)

theorem channelAccess_channelsLegal (c : Channel) {s : State} (h : ChannelsLegal s) : ChannelsLegal (channelAccess c s) := by
  have hserved : ChannelsLegal (servedChannel c s) := h
  unfold channelAccess
  dsimp only
  split
  · split
    · next l hl => exact loadAccess_channelsLegal hserved hl
    · next x hx =>
      split
      · next k hk => exact wordAccess_channelsLegal hserved hx hk
      · exact h
    all_goals exact h
  · exact h

end

theorem serveSlots_channelsLegal (inStep : ChState → Bool) (x : Service) {s : State} (h : ChannelsLegal s) :
    ChannelsLegal (serveSlots inStep x.channel x.slots s) :=
  serveSlots_keeps (P := ChannelsLegal) inStep x.channel x.slots (fun c _ => channelAccess_channelsLegal c) h

theorem windowTurn_channelsLegal (running : Bool) {s : State} (h : ChannelsLegal s) : ChannelsLegal (windowTurn running s) := by
  unfold windowTurn
  split
  · exact channelAccess_channelsLegal _ h
  · exact h

theorem readMdata_channelsLegal (running : Bool) {s : State} (h : ChannelsLegal s) : ChannelsLegal (readMdata running s) := by
  unfold readMdata
  split
  · exact h
  · exact windowTurn_channelsLegal running h

theorem writeMdata_channelsLegal (data : Word) (running : Bool) {s : State} (h : ChannelsLegal s) :
    ChannelsLegal (writeMdata data running s) := by
  unfold writeMdata
  split
  · exact h
  · exact windowTurn_channelsLegal running h

/-! ### Bus work begun, gone on and ended (R86 to R92) -/

/-- A word asks for its cycle: from then on its channel is in the cycle its bus work has (R90). -/
theorem beginWordCycle_channelsLegal (c : Channel) {s : State} (h : ChannelsLegal s) : ChannelsLegal (beginWordCycle c s) := by
  unfold beginWordCycle
  split
  · next w data k hb hx hk =>
    split
    · next ho =>
      have hfits := (channelsLegal_iff s).mp h
      obtain ⟨-, -, hcontrol⟩ := (hfits c).2 w hb ho
      obtain ⟨hword, hkeeps⟩ := (legal_moving_iff hx).mp (h.record c)
      have hin := (keeps_inMemory_iff (.inr (.inr (.inl ⟨data, rfl⟩)))).mp hkeeps
      refine (channelsLegal_iff _).mpr fun d => ?_
      unfold ChannelFits
      rw [State.setChannel_channels, State.setBus_channels, getElem_set_channel]
      by_cases hd : c = d
      · subst hd
        rw [if_pos rfl]
        refine ⟨nextStep_legal hword rfl ⟨rfl, rfl, rfl, rfl⟩
          ((keeps_inMemory_iff (.inr (.inr (.inr (.inl rfl))))).mpr hin), ?_⟩
        rintro v ⟨⟩ -
        exact ⟨rfl, iff_of_true rfl rfl, hcontrol⟩
      · rw [if_neg hd]
        refine ⟨h.record d, ?_⟩
        rintro v ⟨⟩ he
        exact absurd (Owner.channel.inj (ho.symm.trans he)) hd
    · exact h
  · exact h

/-- A change of the cycle in flight leaves whose work it is. -/
theorem channelsLegal_cycle {s t : State} {w : BusWork} {x : Option Cycle} (h : ChannelsLegal s) (hb : s.engine.bus = .cycle w)
    (hx : x.isSome = w.cycle.isSome) (hch : t.channels = s.channels) (hbus : t.engine.bus = .cycle { w with cycle := x }) :
    ChannelsLegal t := by
  refine (channelsLegal_iff t).mpr fun d => ?_
  obtain ⟨hl, hcarries⟩ := (channelsLegal_iff s).mp h d
  unfold ChannelFits
  rw [hch]
  refine ⟨hl, fun v hv ho => ?_⟩
  obtain rfl : { w with cycle := x } = v := Bus.cycle.inj (hbus.symm.trans hv)
  obtain ⟨hmoving, hcycle, hcontrol⟩ := hcarries w hb ho
  exact ⟨hmoving, by rw [hx]; exact hcycle, hcontrol⟩

theorem onCycle_channelsLegal (f : BusWork → Cycle → Cycle) {s : State} (h : ChannelsLegal s) : ChannelsLegal (onCycle f s) := by
  unfold onCycle
  split
  · next w hb =>
    split
    · next c hc => exact channelsLegal_cycle h hb (x := some (f w c)) (by rw [hc]; rfl) rfl rfl
    · exact h
  · exact h
  · exact h

/-- Work of another owner comes on the bus: the law is that of the records. -/
theorem channelsLegal_otherWork {s t : State} (h : ChannelsLegal s) (hch : t.channels = s.channels)
    (hb : ∀ w, t.engine.bus = .cycle w → ∀ d, w.owner ≠ .channel d) : ChannelsLegal t :=
  channelsLegal_offWords (by rw [hch]; exact h.1) fun w d hw => hb w hw d

theorem grantRequest_channelsLegal (r : Request) {s : State} (h : ChannelsLegal s) : ChannelsLegal (grantRequest r s) := by
  have hactive (u : State) : (activate r u).channels = u.channels := by
    unfold activate
    dsimp only
    split <;> rfl
  unfold grantRequest
  dsimp only
  split
  · exact channelsLegal_congr h
      (words_congr ((retire_channels _ _ _ _).trans (hactive _)) ((retire_engine_bus _ _ _ _).trans (activate_engine_bus _ _)))
  · split
    · next w hw =>
      refine channelsLegal_otherWork h (hactive _) fun v hv d ho => ?_
      obtain rfl : w = v := Bus.cycle.inj hv
      have howner := requestWork_owner hw
      simp [Bus.requestTag, ho] at howner
    · exact channelsLegal_congr h (words_congr (hactive _) (activate_engine_bus _ _))

/-- A granted word holds the bus for its channel's working control, and its channel is MOVING (R89, R90). -/
theorem grantWord_channelsLegal {c : Channel} {s : State} (h : ChannelsLegal s) (hx : (s.channels[c]).state = .active) :
    ChannelsLegal (grantWord c s) := by
  unfold grantWord
  dsimp only
  split
  · exact h
  · next k hk =>
    obtain ⟨hword, -, hcount, haddr⟩ := (legal_active_iff hx).mp (h.record c)
    refine (channelsLegal_iff _).mpr fun d => ?_
    unfold ChannelFits
    dsimp only
    rw [getElem_set_channel]
    by_cases hd : c = d
    · subst hd
      rw [if_pos rfl]
      have hnothing : ((s.channels[c]).keptCount.isNone && (s.channels[c]).keptAddress.isNone) = true := by rw [hcount, haddr]; rfl
      refine ⟨nextStep_legal (x := .countRead) hword rfl ⟨rfl, rfl, rfl, rfl⟩ hnothing, ?_⟩
      rintro w ⟨⟩ -
      exact ⟨rfl, iff_of_false (fun hn => nomatch hn) (fun hn => nomatch hn), k, hk, by simp [BusWork.ofControl]⟩
    · rw [if_neg hd]
      refine ⟨h.record d, ?_⟩
      rintro w ⟨⟩ he
      exact absurd (Owner.channel.inj he) hd

theorem grantShared_channelsLegal {s : State} (h : ChannelsLegal s) : ChannelsLegal (grantShared s) := by
  have active {c : Channel} (hn : nextChannel s = some c) : (s.channels[c]).state = .active := by
    obtain ⟨_, -, ⟨hactive, -⟩, -⟩ := (nextChannel_some_iff s c).mp hn
    exact hactive
  unfold grantShared
  split
  · exact grantRequest_channelsLegal _ h
  · next hn => exact grantWord_channelsLegal h (active hn)
  · next hn =>
    split
    · exact grantWord_channelsLegal (channelsLegal_congr h rfl) (active hn)
    · exact grantRequest_channelsLegal _ h
  · exact h

/-- The cycle of a channel's word ends with an outcome of a WRITE or a READ, which its channel takes (R92, Table 6 of spec/01). -/
theorem deliver_channelsLegal {s : State} {w : BusWork} {c : Cycle} {o : CycleOutcome} (h : ChannelsLegal s)
    (hfit : cyclesFit s = true) (hb : s.engine.bus = .cycle w) (hc : w.cycle = some c) (ho : c.phase = .ending o) :
    ChannelsLegal (deliver w o s) := by
  have idle (u : State) (hu : u.channels = s.channels) (hbus : u.engine.bus = .idle) : ChannelsLegal u :=
    channelsLegal_otherWork h hu fun _ hw => nomatch hbus.symm.trans hw
  unfold deliver
  split
  · next t _ =>
    have hover : ChannelsLegal (writeCycleFault o w.station (requestOutcome t o (endBusWork s))) :=
      idle _ (by simp) (by simp)
    unfold resetAfterHang
    split
    · exact startBusReset_channelsLegal hover
    · exact hover
  · exact idle _ (by simp) (by simp)
  · next d howner =>
    obtain ⟨hworkfits, hcyclefits⟩ := (cyclesFit_cycle_iff hb).mp hfit
    have hkind : w.kind ≠ .identify := by
      intro hk
      simp [BusWork.fits, howner, hk] at hworkfits
    have hout : outcomeFits w.kind o = true := by
      have hphase := (Cycle.fits_iff.mp (hcyclefits c hc)).1
      rw [ho] at hphase
      exact hphase
    have hdelivered : (∀ a, o ≠ .answer a) ∧ o ≠ .identifyParity := by
      constructor
      · rintro a rfl
        exact hkind (by simpa using hout)
      · rintro rfl
        exact hkind (by simpa using hout)
    have hfits := (channelsLegal_iff s).mp h
    obtain ⟨-, hcycle, hcontrol⟩ := (hfits d).2 w hb howner
    have hx : (s.channels[d]).state = .moving .inCycle := hcycle.mp (by rw [hc]; rfl)
    obtain ⟨hword, hkeeps⟩ := (legal_moving_iff hx).mp (h.record d)
    have hunder : WordUnderWay d (s.setBus (.cycle { w with cycle := none })) := by
      refine ⟨fun e he => ⟨h.record e, ?_⟩, hword, ?_⟩
      · rintro v ⟨⟩ hv
        exact absurd (Owner.channel.inj (hv.symm.trans howner)) he
      · rintro v ⟨⟩ -
        exact ⟨rfl, hcontrol⟩
    have hended := channelOutcome_channelsLegal hunder hkeeps (.inr hdelivered)
    dsimp only
    split
    · exact channelsLegal_congr hended (words_congr (writeFault_channels _ _ _) (writeFault_engine_bus _ _ _))
    · exact hended

/-! ### Commands and window writes -/

/-- ARM takes an IDLE, ENDED or FAULTED channel to LOADING (R125). -/
theorem armChannel_channelsLegal {s : State} (h : ChannelsLegal s) : ChannelsLegal (armChannel s) := by
  unfold armChannel
  split
  · exact h
  · next c _ =>
    split
    · exact h
    · next harm =>
      split
      · exact h
      · next haddr =>
        have hx : (s.channels[c]).state.isMoving = false := by
          revert harm
          cases (s.channels[c]).state <;> simp [armable, ChState.isMoving]
        refine h.setChannel_offBus hx rfl rfl ((legal_loading_iff rfl).mpr ⟨?_, Nat.zero_le _, rfl, rfl, rfl⟩)
        change (s.port.arg1.extractLsb' 0 12).toNat ≤ 0xFFC
        rw [BitVec.extractLsb'_toNat, Nat.shiftRight_zero]
        exact (Nat.mod_le _ _).trans (Nat.not_lt.mp haddr)

/-- A record that changes in nothing the law reads of a working channel keeps it. -/
theorem ChannelsLegal.sameWork {s t : State} {c : Channel} {y : ChannelRec} (h : ChannelsLegal s)
    (hch : t.channels = s.channels.set c y) (hbus : t.engine.bus = s.engine.bus) (hx : y.state = (s.channels[c]).state)
    (hk : y.control = (s.channels[c]).control) (hy : y.legal = true) : ChannelsLegal t := by
  have hfits := (channelsLegal_iff s).mp h
  refine channelsLegal_of_record (fun d _ => hfits d) hch (.inl hbus) hy fun w hw ho => ?_
  obtain ⟨hmoving, hcycle, hcontrol⟩ := (hfits c).2 w (hbus ▸ hw) ho
  exact ⟨by rw [hx]; exact hmoving, by rw [hx]; exact hcycle, by rw [hk]; exact hcontrol⟩

/-- CH_STOP ends an ACTIVE channel, and asks a LOADING or MOVING one to stop (R140). -/
theorem stopChannel_channelsLegal {s : State} (h : ChannelsLegal s) : ChannelsLegal (stopChannel s) := by
  unfold stopChannel
  split
  · exact h
  · next c _ =>
    have hlegal := h.record c
    have hasked (hx : (∃ l, (s.channels[c]).state = .loading l) ∨ ∃ x, (s.channels[c]).state = .moving x) :
        ({ s.channels[c] with stopRequested := true } : ChannelRec).legal = true := by
      obtain ⟨l, hl⟩ | ⟨x, hx⟩ := hx
      · obtain ⟨hccb, hdefers, hcount, haddr, hreason⟩ := (legal_loading_iff hl).mp hlegal
        exact (legal_loading_iff (r := { s.channels[c] with stopRequested := true }) hl).mpr
          ⟨hccb, hdefers, hcount, haddr, hreason⟩
      · obtain ⟨hword, hkeeps⟩ := (legal_moving_iff hx).mp hlegal
        exact nextStep_legal (x := x) hword hx ⟨rfl, rfl, rfl, rfl⟩ hkeeps
    split
    · next hx =>
      obtain ⟨hccb, hdefers⟩ := bounds_of_legal hlegal
      exact h.setChannel_offBus (c := c) (by rw [hx]; rfl) rfl rfl (ends_ended_legal (x := .stopped) hccb hdefers (.inr rfl))
    · next l hl => exact h.sameWork (c := c) rfl rfl rfl rfl (hasked (.inl ⟨l, hl⟩))
    · next x hx => exact h.sameWork (c := c) rfl rfl rfl rfl (hasked (.inr ⟨x, hx⟩))
    all_goals exact h

/-- CH_ACK clears a flag the law does not read (R142). -/
theorem ackChannel_channelsLegal {s : State} (h : ChannelsLegal s) : ChannelsLegal (ackChannel s) := by
  unfold ackChannel
  split
  · exact h
  · next c _ => exact h.sameWork (c := c) rfl rfl rfl rfl (h.record c)

/-- The reset values' records are legal, and a reset leaves no work on the bus (R198, R203). -/
theorem channelsLegal_reset {s : State} (hch : s.channels = State.reset.channels) {k : Nat} {f : Bool}
    (hb : s.engine.bus = .resetting k f) : ChannelsLegal s := by
  refine channelsLegal_offWords (fun d => ?_) fun _ _ hw => nomatch hb.symm.trans hw
  have hrec : State.reset.channels[d] = ChannelRec.reset := Vector.getElem_replicate d.isLt
  rw [hch, hrec]
  rfl

theorem setResult_words (s : State) (r : Result) : (s.setResult r).words = s.words := rfl

theorem applySource_words (s : State) : (applySource s).words = s.words := by
  have hcleared (x : Source) : (clearRouted x s).words = s.words := by
    unfold clearRouted
    (repeat' split) <;> rfl
  have hsense (x : Source) (u : State) : (applySense x u).words = u.words := by
    unfold applySense
    split <;> rfl
  unfold applySource
  split
  · rfl
  · split
    · rfl
    · split
      · rfl
      · refine (hsense _ _).trans ?_
        split
        · rfl
        · exact hcleared _

theorem takeSource_words (s : State) : (takeSource s).words = s.words := by
  have htaken (x : Source) : (takePending x s).words = s.words := by
    unfold takePending
    (repeat' split) <;> rfl
  unfold takeSource
  split
  · rfl
  · split
    · rfl
    · exact htaken _

/-- Of the commands only the two resets and those of the channels reach what the law reads. -/
theorem performCommand_channelsLegal (c : Instr) {s : State} (h : ChannelsLegal s) : ChannelsLegal (performCommand c s) := by
  have kept {t : State} (ht : t.words = s.words) : ChannelsLegal t := channelsLegal_congr h ht
  cases c with
  | arm => exact armChannel_channelsLegal h
  | chStop => exact stopChannel_channelsLegal h
  | chAck => exact ackChannel_channelsLegal h
  | softReset => exact channelsLegal_reset rfl rfl
  | busReset =>
    simp only [performCommand, busResetCommand]
    split
    · exact h
    · exact channelsLegal_congr (startBusReset_channelsLegal h) (setResult_words _ _)
  | srcApply => exact kept (applySource_words s)
  | take => exact kept (takeSource_words s)
  | stop | step =>
    simp only [performCommand, stopEngine, stepEngine]
    (repeat' split) <;> exact kept rfl
  | post | pop =>
    simp only [performCommand, postRequest, popCompletion]
    (repeat' split) <;> exact kept rfl
  | profApply | profLoad =>
    simp only [performCommand, applyProfile, loadProfile]
    (repeat' split) <;> exact kept rfl
  | srcLoad | endService =>
    simp only [performCommand, loadSource, endSource]
    (repeat' split) <;> exact kept rfl
  | run | flush | clearFault | unknownCmd | mdataRead | mdataWrite | configWrite | attnCfgWrite | windowWrite | resetAssert
  | resetDeassert | clearSweepEnd | satnAssertion | satnDeassertion | dispatchChoice | responseWindowExpiry | holdLimitReached
  | cycleEnd | busResetIntervalEnd | dividerTakesEffect | identifyIntervalLapse | settlePeriodsBegin | backoffExpiry | ccbLoad
  | channelCountStep | channelAddressStep | channelDataStep | channelRollback | inDataWrite | stationResponse | byteTransfer
  | senseSample | answerCheckSample => exact kept rfl

theorem windowCommand_channelsLegal {body : State → State} {s : State} (h : ChannelsLegal s) (hb : ChannelsLegal (body s)) :
    ChannelsLegal (windowCommand body s) := by
  unfold windowCommand
  split
  · exact h
  · exact hb

theorem unlessInit_channelsLegal {write : State → State} {s : State} (h : ChannelsLegal s) (hw : (write s).words = s.words) :
    ChannelsLegal (unlessInit write s) := by
  unfold unlessInit
  split
  · exact h
  · exact channelsLegal_congr h hw

theorem writeCmd_channelsLegal (w : Word) {s : State} (h : ChannelsLegal s) : ChannelsLegal (writeCmd w s) := by
  unfold writeCmd
  split
  · exact performCommand_channelsLegal _ h
  · exact h

theorem writeLocation_channelsLegal (location : BitVec 5) (w : Word) {s : State} (h : ChannelsLegal s) :
    ChannelsLegal (writeLocation location w s) := by
  unfold writeLocation
  split
  · exact windowCommand_channelsLegal h (writeCmd_channelsLegal w h)
  · exact writeMdata_channelsLegal w false h
  · exact unlessInit_channelsLegal h rfl
  · exact unlessInit_channelsLegal h rfl
  · exact unlessInit_channelsLegal h (by rw [storeLocation_frame]; rfl)

/-! ### The events of the interval and of RESET#, and the periods -/

theorem beginSettle_channelsLegal {s : State} (h : ChannelsLegal s) : ChannelsLegal (beginSettle s) := by
  unfold beginSettle
  split
  · exact h
  · split
    · exact channelsLegal_otherWork h rfl fun _ hw => nomatch hw
    · exact h
  · exact h
  · exact h

theorem endInterval_channelsLegal {s : State} (h : ChannelsLegal s) : ChannelsLegal (endInterval s) := by
  unfold endInterval
  split
  · exact h
  · exact channelsLegal_otherWork h rfl fun _ hw => nomatch hw
  · exact h
  · exact h

theorem assertReset_channelsLegal (held : Nat) {s : State} (h : ChannelsLegal s) : ChannelsLegal (assertReset held s) := by
  have htake : ChannelsLegal (takeReset held s) := by
    unfold takeReset
    split
    · exact channelsLegal_reset rfl rfl
    · split
      · exact channelsLegal_reset rfl rfl
      · exact h
  unfold assertReset
  split
  · exact h
  · exact htake
  · exact htake

/-- A rollback that counts its periods stays the rollback it is (R55). -/
theorem channelPeriod_legal {r : ChannelRec} (h : r.legal = true) : (channelPeriod r).legal = true := by
  unfold channelPeriod
  split
  case h_1 hx | h_2 hx =>
    obtain ⟨hword, hkeeps⟩ := (legal_moving_iff hx).mp h
    exact nextStep_legal hword rfl ⟨rfl, rfl, rfl, rfl⟩ hkeeps
  · exact h

theorem channelPeriod_carries {w : BusWork} {r : ChannelRec} (h : w.Carries r) : w.Carries (channelPeriod r) := by
  unfold channelPeriod
  split
  case h_1 hx | h_2 hx =>
    obtain ⟨-, hcycle, hcontrol⟩ := h
    rw [hx] at hcycle
    refine ⟨rfl, hcycle.trans ?_, hcontrol⟩
    exact iff_of_false (fun hn => nomatch hn) fun hn => nomatch hn
  · exact h

/-- A period leaves the work on the bus with its owner. -/
theorem tick_channelsLegal {s : State} (h : ChannelsLegal s) : ChannelsLegal (tick s) := by
  refine (channelsLegal_iff _).mpr fun d => ?_
  have hrec : (tick s).channels[d] = channelPeriod s.channels[d] := Vector.getElem_ofFn _
  obtain ⟨hl, hcarries⟩ := (channelsLegal_iff s).mp h d
  unfold ChannelFits
  rw [hrec, tick_engine_bus]
  refine ⟨channelPeriod_legal hl, fun w hw ho => ?_⟩
  cases hb : s.engine.bus with
  | idle =>
    rw [hb] at hw
    cases hw
  | resetting k f =>
    rw [hb] at hw
    simp only [busPeriod] at hw
    (repeat' split at hw) <;> cases hw
  | cycle v =>
    rw [hb] at hw
    obtain rfl : { v with cycle := v.cycle.map (cyclePeriod v) } = w := Bus.cycle.inj hw
    obtain ⟨hmoving, hcycle, hcontrol⟩ := channelPeriod_carries (hcarries v hb ho)
    exact ⟨hmoving, by rw [Option.isSome_map]; exact hcycle, hcontrol⟩

/-! ### Every command and every step -/

/-- Every row keeps the law; the command rows are `performCommand` behind the INIT check. -/
theorem exec_channelsLegal (i : Instr) {s : State} (h : ChannelsLegal s) (hfit : cyclesFit s = true) :
    ∃ t, exec i s = .next t ∧ ChannelsLegal t := by
  have command (c : Instr) : ChannelsLegal (windowCommand (performCommand c) s) :=
    windowCommand_channelsLegal h (performCommand_channelsLegal c h)
  have slots (inStep : ChState → Bool) (x : Service) := serveSlots_channelsLegal inStep x h
  cases i with
  | run | stop | step | flush | busReset | clearFault | softReset | post | pop | profApply | profLoad | srcApply | srcLoad
  | take | endService | arm | chStop | chAck => exact ⟨_, exec_command rfl s, command _⟩
  | unknownCmd w => exact ⟨_, rfl, windowCommand_channelsLegal h (writeCmd_channelsLegal w h)⟩
  | mdataRead running => exact ⟨_, rfl, readMdata_channelsLegal running h⟩
  | mdataWrite data running => exact ⟨_, rfl, writeMdata_channelsLegal data running h⟩
  | configWrite | attnCfgWrite => exact ⟨_, rfl, unlessInit_channelsLegal h rfl⟩
  | windowWrite location w => exact ⟨_, rfl, writeLocation_channelsLegal location w h⟩
  | resetAssert held => exact ⟨_, rfl, assertReset_channelsLegal held h⟩
  | resetDeassert =>
    refine ⟨_, rfl, ?_⟩
    unfold deassertReset
    split
    · exact channelsLegal_otherWork h rfl fun _ hw => nomatch hw
    · exact h
    · exact h
  | clearSweepEnd =>
    refine ⟨_, rfl, ?_⟩
    unfold endSweep
    split
    · exact endInterval_channelsLegal h
    · exact h
    · exact h
  | busResetIntervalEnd => exact ⟨_, rfl, endInterval_channelsLegal h⟩
  | settlePeriodsBegin => exact ⟨_, rfl, beginSettle_channelsLegal h⟩
  | satnAssertion | satnDeassertion | identifyIntervalLapse =>
    refine ⟨_, rfl, ?_⟩
    split <;> exact h
  | backoffExpiry n =>
    refine ⟨_, rfl, ?_⟩
    unfold expireBackoff
    split <;> exact h
  | dividerTakesEffect =>
    refine ⟨_, rfl, ?_⟩
    unfold applyDivider
    split <;> exact h
  | dispatchChoice =>
    refine ⟨_, rfl, ?_⟩
    split
    · split
      · refine channelsLegal_otherWork h rfl ?_
        rintro w ⟨⟩ d ⟨⟩
      · exact grantShared_channelsLegal h
    · exact h
  | responseWindowExpiry | holdLimitReached | stationResponse | byteTransfer | senseSample | answerCheckSample =>
    exact ⟨_, rfl, onCycle_channelsLegal _ h⟩
  | cycleEnd =>
    refine ⟨_, rfl, ?_⟩
    split
    · next w hb =>
      split
      · next c hc =>
        split
        · next o ho => exact deliver_channelsLegal (s := takeDivider s) h hfit hb hc ho
        · exact h
      · exact h
    · exact h
    · exact h
  | ccbLoad x | channelCountStep x | channelAddressStep x | channelRollback x | inDataWrite x => exact ⟨_, rfl, slots _ x⟩
  | channelDataStep x => exact ⟨_, rfl, beginWordCycle_channelsLegal x.channel (slots _ x)⟩

/-- Settles O60: the front command keeps the law row by row, an empty queue's period record by record. -/
theorem channelsStayLegal : Obligations.ChannelsStayLegal := by
  intro s t h hfit hstep
  unfold step at hstep
  split at hstep
  · cases hstep
    exact tick_channelsLegal h
  · next c rest _ =>
    obtain ⟨u, hu, hlegal⟩ := exec_channelsLegal c (s := { s with pending := rest }) h hfit
    rw [hu] at hstep
    cases hstep
    exact hlegal

end Sys2Proof.Machine
end

section
/-! PROOFS. The channel commands (R124, R125, R140, R142) and the end of a channel word's cycle (R92, R93, R101, R133 to R136). -/

namespace Sys2Proof.Machine

/-! ### The channel commands -/

theorem argChannel_none {s : State} (h : 3 < s.port.arg0.toNat) : argChannel s = none := dif_neg (Nat.not_lt.mpr h)

theorem argChannel_some {s : State} {c : Channel} (h : s.port.arg0.toNat = c.val) : argChannel s = some c := by
  have hlt : s.port.arg0.toNat < 4 := h ▸ c.isLt
  exact (dif_pos hlt).trans (congrArg some (Fin.ext h))

theorem armable_iff (x : ChState) : armable x = true ↔ x = .idle ∨ x = .ended ∨ x = .faulted := by
  cases x <;> simp [armable]

/-- The states ARM refuses are LOADING, ACTIVE and MOVING. -/
theorem armable_eq_false {x : ChState} (h : x.isLoadingOrActive = true ∨ x.isMoving = true) : armable x = false := by
  cases x <;> simp [ChState.isLoadingOrActive, ChState.isMoving] at h <;> rfl

theorem ChState.isMoving_iff (x : ChState) : x.isMoving = true ↔ ∃ w, x = .moving w := by
  cases x <;> simp [ChState.isMoving]

section
variable {s : State} {c : Channel}

theorem armChannel_busy (hc : argChannel s = some c) (h : armable (s.channels[c]).state = false) :
    armChannel s = s.setResult .chBusy := by
  simp only [armChannel, hc, h]
  rfl

/-- The CCB address ARM takes is at most FFCh (R125). -/
theorem armChannel_badField (hc : argChannel s = some c) (h : armable (s.channels[c]).state = true)
    (ha : 0xFFC < s.port.arg1.toNat) : armChannel s = s.setResult .badField := by
  simp only [armChannel, hc, h]
  exact if_pos ha

theorem armChannel_armed (hc : argChannel s = some c) (h : armable (s.channels[c]).state = true)
    (ha : s.port.arg1.toNat ≤ 0xFFC) :
    armChannel s = (s.setChannel c (armedRecord (s.port.arg1.extractLsb' 0 12))).setResult .ok := by
  simp only [armChannel, hc, h]
  exact if_neg (Nat.not_lt.mpr ha)

theorem stopChannel_active (hc : argChannel s = some c) (hx : (s.channels[c]).state = .active) :
    stopChannel s = (enterEnded c .stopped s).setResult .ok := by
  simp only [stopChannel, hc, hx]

theorem stopChannel_asks (hc : argChannel s = some c)
    (hx : (∃ l, (s.channels[c]).state = .loading l) ∨ ∃ w, (s.channels[c]).state = .moving w) :
    stopChannel s = (s.setChannel c { s.channels[c] with stopRequested := true }).setResult .ok := by
  unfold stopChannel
  rw [hc]
  obtain ⟨l, hl⟩ | ⟨w, hw⟩ := hx
  · dsimp only
    rw [hl]
  · dsimp only
    rw [hw]

theorem stopChannel_badState (hc : argChannel s = some c)
    (hx : (s.channels[c]).state = .idle ∨ (s.channels[c]).state = .ended ∨ (s.channels[c]).state = .faulted) :
    stopChannel s = s.setResult .badState := by
  obtain hx | hx | hx := hx <;> simp only [stopChannel, hc, hx]

end

/-- Settles O28: by the channel ARG0 names and by its state. -/
theorem channelCommands : Obligations.ChannelCommands := by
  refine ⟨fun s hi => ?_, fun s hi => ?_⟩
  · have hexec : exec .arm s = .next (armChannel s) := exec_command_performed rfl hi
    rw [hexec]
    refine ⟨fun h => ?_, fun c h => ⟨fun hbusy => ?_, fun hidle => ⟨fun ha => ?_, fun ha => ?_⟩⟩⟩
    · rw [armChannel, argChannel_none h]
      rfl
    · exact congrArg _ (armChannel_busy (argChannel_some h) (armable_eq_false hbusy))
    · exact congrArg _ (armChannel_badField (argChannel_some h) ((armable_iff _).mpr hidle) ha)
    · exact congrArg _ (armChannel_armed (argChannel_some h) ((armable_iff _).mpr hidle) ha)
  · have hstop : exec .chStop s = .next (stopChannel s) := exec_command_performed rfl hi
    have hack : exec .chAck s = .next (ackChannel s) := exec_command_performed rfl hi
    rw [hstop, hack]
    refine ⟨fun h => ?_, fun c h => ⟨fun hx => ?_, fun hx => ?_, fun hx => ?_, ?_⟩⟩
    · rw [stopChannel, ackChannel, argChannel_none h]
      exact ⟨rfl, rfl⟩
    · exact congrArg _ (stopChannel_active (argChannel_some h) hx)
    · rw [ChState.isMoving_iff] at hx
      exact congrArg _ (stopChannel_asks (argChannel_some h) hx)
    · exact congrArg _ (stopChannel_badState (argChannel_some h) hx)
    · rw [ackChannel, argChannel_some h]
      rfl

/-! ### The end of a word's cycle (R92, R93, R133 to R136) -/

section
variable {s : State} {w : BusWork} {ch : Channel}

theorem ownsBus_of_owner (hb : s.engine.bus = .cycle w) (hw : w.owner = .channel ch) : ownsBus ch s = true := by
  simp only [ownsBus, hb, hw, beq_self_eq_true]

theorem ownsBus_of_others (h : ∀ w, s.engine.bus = .cycle w → w.owner ≠ .channel ch) : ownsBus ch s = false := by
  unfold ownsBus
  split
  · next w hb => exact beq_eq_false_iff_ne.mpr (h w hb)
  · rfl
  · rfl

/-- A word that ends on the bus: the bus goes idle, its channel takes a record, and the Engine halts where that is a failure under
halt-on-error, or where it was to stop with the work (R93, R98). -/
theorem releaseBus_takesRecord {y : ChannelRec} (hown : ownsBus ch s = true) : (releaseBus ch s).takesRecord ch y =
    ((s.setBus .idle).setChannel ch y).toRun (runAfterWork (s.cfg.haltOnError && y.state == .faulted) s.engine.run) := by
  have hreleased : releaseBus ch s = (s.setBus .idle).toRun (runAfterWork false s.engine.run) := by
    rw [releaseBus, if_pos hown]
    exact workEnded_eq _
  have hrun : runAfterTrigger (s.cfg.haltOnError && y.state == .faulted) false (runAfterWork false s.engine.run) =
      runAfterWork (s.cfg.haltOnError && y.state == .faulted) s.engine.run := by
    rw [runAfterTrigger_runAfterWork, Bool.false_or]
  rw [hreleased, ← hrun]
  refine toRun_toRun (s := (s.setBus .idle).setChannel ch y) (a := runAfterWork false s.engine.run) (fun h => ?_) fun h => ?_
  · have hhalted : s.engine.run = .halted := h
    rw [hhalted, runAfterWork_halted]
  · change runAfterTrigger _ false (runAfterWork false s.engine.run) = .halted
    rw [h, runAfterTrigger_halted]

/-- The ACK of a word that holds the bus ends its bus work (R93, R134). -/
theorem channelAck_owned {k : Control} (hk : (s.channels[ch]).control = some k) (hown : ownsBus ch s = true) :
    channelAck ch s =
      (({ s with
        engine := { s.engine with bus := .idle }
        channels := s.channels.set ch ((s.channels[ch]).afterAck k false)
        attn := s.attn.consumed k } : State).toRun
          (runAfterWork (s.cfg.haltOnError && ((s.channels[ch]).afterAck k false).state == .faulted) s.engine.run)) := by
  rw [channelAck_takes hk, hown]
  exact releaseBus_takesRecord (s := { s with attn := s.attn.consumed k }) hown

/-- The ACK of a word whose bus work a reset has ended leaves the bus (R145). -/
theorem channelAck_lost {k : Control} (hk : (s.channels[ch]).control = some k) (hlost : ownsBus ch s = false) :
    channelAck ch s =
      (({ s with
        channels := s.channels.set ch ((s.channels[ch]).afterAck k true)
        attn := s.attn.consumed k } : State).toRun
          (runAfterTrigger (s.cfg.haltOnError && ((s.channels[ch]).afterAck k true).state == .faulted) s.busy s.engine.run)) := by
  rw [channelAck_takes hk, hlost, releaseBus_lost (s := { s with attn := s.attn.consumed k }) hlost]
  rfl

/-- The state in which a channel takes its cycle's outcome: the written divider is in effect, and the word holds the bus with no
cycle (R2, R85). -/
def State.wordCycleOver (s : State) (w : BusWork) : State :=
  { s with engine := { s.engine with bus := .cycle { w with cycle := none }, divider := s.cfg.divider } }

theorem exec_cycleEnd_word {c : Cycle} {o : CycleOutcome} (hb : s.engine.bus = .cycle w) (hw : w.owner = .channel ch)
    (hc : w.cycle = some c) (ho : c.phase = .ending o) : exec .cycleEnd s = .next
      (if o = .protocol then writeFault .protocol w.station (channelOutcome ch o (s.wordCycleOver w))
      else channelOutcome ch o (s.wordCycleOver w)) := by
  have hdeliver : exec .cycleEnd s = .next (deliver w o (takeDivider s)) := by
    simp only [exec, execCycleEnd, hb, hc, ho]
  rw [hdeliver]
  unfold deliver
  split
  · next hq => exact nomatch hw.symm.trans hq
  · next ha => exact nomatch hw.symm.trans ha
  · next d hd =>
    obtain rfl : ch = d := Owner.channel.inj (hw.symm.trans hd)
    rfl

theorem exec_cycleEnd_acked {c : Cycle} {data : Option Word} (hb : s.engine.bus = .cycle w) (hw : w.owner = .channel ch)
    (hc : w.cycle = some c) (ho : c.phase = .ending (.ack data)) :
    exec .cycleEnd s = .next (channelOutcome ch (.ack data) (s.wordCycleOver w)) :=
  (exec_cycleEnd_word hb hw hc ho).trans (congrArg _ (if_neg fun h => nomatch h))

/-- An outcome that rolls the word back leaves it holding the bus (R135, R136). -/
theorem wordCycleOver_rollsBack {v : Word} (e : WordEnd) (hv : (s.channels[ch]).keptCount = some v) :
    startRollback ch e (s.wordCycleOver w) =
      (s.wordCycleOver w).setChannel ch { s.channels[ch] with state := .moving (.rollCount e) } :=
  (startRollback_kept (u := s.wordCycleOver w) e hv).trans (takesRecord_of_not_faulted rfl)

/-- Outside the END period of a cycle the event changes nothing (assumption 2). -/
theorem exec_cycleEnd_outside
    (h : ∀ (w : BusWork) (c : Cycle), s.engine.bus = .cycle w → w.cycle = some c → ∀ o, c.phase ≠ .ending o) :
    exec .cycleEnd s = .next s := by
  refine congrArg Host.Outcome.next ?_
  split
  · next w hb =>
    split
    · next c hc =>
      split
      · next o ho => exact absurd ho (h w c hb hc o)
      · rfl
    · rfl
  · rfl
  · rfl

end

/-- Settles O40: by the outcome its channel takes. -/
theorem channelCycleEnds : Obligations.ChannelCycleEnds := by
  refine ⟨fun s w c ch k v o hb hw hc ho hx hk hv => ?_, fun s h => exec_cycleEnd_outside h⟩
  dsimp only
  refine ⟨?_, ?_, ?_, fun reason hreason => ?_⟩
  · rintro hin data rfl
    rw [exec_cycleEnd_acked hb hw hc ho, channelOutcome_ack_in (s := s.wordCycleOver w) data hk hin]
    rfl
  · rintro hout data rfl
    have hown : ownsBus ch (s.wordCycleOver w) = true := ownsBus_of_owner rfl hw
    rw [exec_cycleEnd_acked hb hw hc ho, channelOutcome_ack_out (s := s.wordCycleOver w) data hk hout,
      channelAck_owned (s := s.wordCycleOver w) hk hown]
    rfl
  · rintro rfl
    rw [exec_cycleEnd_word hb hw hc ho, if_neg fun h => nomatch h]
    exact congrArg _ (wordCycleOver_rollsBack _ hv)
  · rw [exec_cycleEnd_word hb hw hc ho, channelOutcome_fails hreason, wordCycleOver_rollsBack _ hv]
    split
    · rw [writeFault_eq]
      rfl
    · rfl

end Sys2Proof.Machine
end

section
/-! PROOFS. The memory slots of the Block Channels (R112, R113), and LOAD (R126, R127, R141). -/

namespace Sys2Proof.Machine

/-! ### Slots by turn (R113) -/

section
variable {s t : State} {c d : Channel} {inStep : ChState → Bool}

/-- A channel that waits for the memory alone has its turn. -/
theorem aloneAtMemory.turnOf (h : aloneAtMemory s c) (hw : wantsMemory (s.channels[c]).state = true) : turnOf s c := by
  obtain ⟨k, rfl⟩ := channel_eq_pointer_add s.xmem.rotation c
  exact ⟨hw, k, rfl, fun j hj => h _ fun he => absurd (add_left_cancel he) (Fin.ne_of_lt hj)⟩

/-- Its own record does not bring another channel to the memory. -/
theorem aloneAtMemory.withRecord {y : ChannelRec} (h : aloneAtMemory s c) (hch : t.channels = s.channels.set c y) :
    aloneAtMemory t c := by
  intro d hd
  rw [hch, getElem_set_channel, if_neg (Ne.symm hd)]
  exact h d hd

/-- A slot goes to the channel in turn, whichever channel stands in the step. -/
theorem serveSlots_turn (n : Nat) (hin : inStep (s.channels[c]).state = true) (h : turnOf s d) :
    serveSlots inStep c (n + 1) s = serveSlots inStep c n (channelAccess d s) := by
  rw [serveSlots_next _ _ _ hin, channelsSlot_serves (offeredChannel_of_turnOf h)]

/-- One slot of the channel in turn. -/
theorem serveSlots_one (hin : inStep (s.channels[c]).state = true) (h : turnOf s c) :
    serveSlots inStep c 1 s = channelAccess c s := serveSlots_turn 0 hin h

/-- The access that takes the channel out of the step is its last one, however many slots there are. -/
theorem serveSlots_last (n : Nat) (hin : inStep (s.channels[c]).state = true) (h : turnOf s c) (haccess : channelAccess c s = t)
    (hout : inStep (t.channels[c]).state = false) : serveSlots inStep c (n + 1) s = t := by
  rw [serveSlots_turn n hin h, haccess, serveSlots_stop _ _ _ hout]

/-- Without slots, or outside the step, nothing is served; else the first slot goes by turn (assumptions 2 and 7). -/
theorem slots_by_turn (n : Nat) (hin : inStep (s.channels[c]).state = true) :
    serveSlots inStep c 0 s = s ∧
      ∀ d : Channel, turnOf s d → serveSlots inStep c (n + 1) s = serveSlots inStep c n (channelAccess d s) :=
  ⟨rfl, fun _ => serveSlots_turn n hin⟩

/-- The record with its channel in another state. -/
def ChannelRec.inState (r : ChannelRec) (x : ChState) : ChannelRec := { r with state := x }

theorem channelAccess_loading {l : LoadStep} (hl : (s.channels[c]).state = .loading l) :
    channelAccess c s = loadAccess c l (s.served c) := by
  have hw : wantsMemory (s.channels[c]).state = true := by rw [hl]; rfl
  unfold channelAccess
  dsimp only
  rw [if_pos hw, hl]
  rfl

theorem channelAccess_moving {x : WordStep} {k : Control} (hw : wantsMemory (s.channels[c]).state = true)
    (hx : (s.channels[c]).state = .moving x) (hk : (s.channels[c]).control = some k) :
    channelAccess c s = wordAccess c k x (s.served c) := by
  unfold channelAccess
  dsimp only
  rw [if_pos hw, hx, hk]
  rfl

/-! ### LOAD's checks (R127) -/

theorem controlOfWord_none {w : Word} (h : w.extractLsb' 12 4 = 0#4) : Control.ofWord w = none := by
  unfold Control.ofWord
  rw [h]
  rfl

theorem controlOfWord_station {w : Word} {m : Station} (h : (w.extractLsb' 12 4).toNat = m.number) :
    Control.ofWord w = some { station := m, offset := w.extractLsb' 0 8, out := w.getLsbD 11, paced := w.getLsbD 10
                              hold := w.getLsbD 9, notify := w.getLsbD 8 } := by
  unfold Control.ofWord
  rw [h, ofNumber_stationNumber]
  rfl

theorem loadCheck_noStation {control : Word} (count : Word) (h : control.extractLsb' 12 4 = 0#4) :
    loadCheck s c control count = .error .badCcb := by
  simp only [loadCheck, controlOfWord_none h]

theorem loadCheck_stationOff {control : Word} {k : Control} (count : Word) (hk : Control.ofWord control = some k)
    (hoff : (s.profiles[k.station]).enabled = false) : loadCheck s c control count = .error .stationOff := by
  simp only [loadCheck, hk, hoff]
  rfl

/-- The word of an enabled station passes unless it is paced by a station not routed to the channel, or its count is 0000h. -/
theorem loadCheck_enabled {control : Word} {k : Control} (count : Word) (hk : Control.ofWord control = some k)
    (hon : (s.profiles[k.station]).enabled = true) : loadCheck s c control count =
      if (k.paced = false ∨ (s.alerts.config[k.station.source]).routing = .channel c) ∧ count ≠ 0 then .ok k
      else .error .badCcb := by
  have hrouting : (k.paced && (s.alerts.config[k.station.source]).routing != .channel c) = true ↔
      ¬ (k.paced = false ∨ (s.alerts.config[k.station.source]).routing = .channel c) := by
    rw [Bool.and_eq_true, bne_iff_ne, not_or, Bool.not_eq_false]
  simp only [loadCheck, hk, hon, hrouting]
  split
  · next h => exact nomatch h
  · split
    · next h => rw [if_neg fun hok => h hok.1]
    · next h =>
      split
      · next hz => rw [if_neg fun hok => hok.2 hz]
      · next hz => rw [if_pos ⟨not_not.mp h, hz⟩]

/-! ### The slots of a LOAD (R126) -/

/-- The record a LOAD leaves by the answer of its checks (R127, R141). -/
def ChannelRec.afterLoad (r : ChannelRec) (check : Except Reason Control) (link : Word) : ChannelRec :=
  match check with
  | .error x => r.ends .faulted x
  | .ok k => ({ r with control := some k, link := some link } : ChannelRec).resumed false

theorem finishLoad_takes (c : Channel) (control count link : Word) (s : State) : finishLoad c control count link s =
    s.takesRecord c ((s.channels[c]).afterLoad (loadCheck s c control count) link) := by
  unfold finishLoad ChannelRec.afterLoad
  cases loadCheck s c control count with
  | error x => exact enterFaulted_takes _ _ _
  | ok k =>
    dsimp only
    rw [resumeOrStop_takes_resumed, setChannel_channel, setChannel_takesRecord]

/-- The reads do not change what the checks leave. -/
theorem afterLoad_inState (r : ChannelRec) (x : ChState) (check : Except Reason Control) (link : Word) :
    (r.inState x).afterLoad check link = r.afterLoad check link := by
  cases check <;> rfl

theorem afterLoad_notLoading (r : ChannelRec) (check : Except Reason Control) (link : Word) :
    inLoad (r.afterLoad check link).state = false := by
  unfold ChannelRec.afterLoad ChannelRec.resumed
  (repeat' split) <;> rfl

theorem takesRecord_channel (s : State) (c : Channel) (y : ChannelRec) : (s.takesRecord c y).channels[c] = y :=
  setChannel_channel s c y

theorem load_control (n : Nat) (hl : (s.channels[c]).state = .loading .control) (ht : turnOf s c) :
    serveSlots inLoad c (n + 1) s = serveSlots inLoad c n ((s.served c).setChannel c
      { s.channels[c] with state := .loading (.count (Memory.read s.xmem.mem (s.channels[c]).ccb.toNat)) }) := by
  rw [serveSlots_turn n (by rw [hl]; rfl) ht, channelAccess_loading hl]
  rfl

theorem load_count (n : Nat) {w : Word} (hl : (s.channels[c]).state = .loading (.count w)) (ht : turnOf s c) :
    serveSlots inLoad c (n + 1) s = serveSlots inLoad c n ((s.served c).setChannel c
      { s.channels[c] with state := .loading (.link w (Memory.read s.xmem.mem ((s.channels[c]).ccb.toNat + 1))) }) := by
  rw [serveSlots_turn n (by rw [hl]; rfl) ht, channelAccess_loading hl]
  rfl

/-- With the link read the checks follow, and the LOAD is over. -/
theorem load_link (n : Nat) {w v : Word} (hl : (s.channels[c]).state = .loading (.link w v)) (ht : turnOf s c) :
    serveSlots inLoad c (n + 1) s = (s.served c).takesRecord c
      ((s.channels[c]).afterLoad (loadCheck s c w v) (Memory.read s.xmem.mem ((s.channels[c]).ccb.toNat + 3))) := by
  refine serveSlots_last n (by rw [hl]; rfl) ht ((channelAccess_loading hl).trans (finishLoad_takes _ _ _ _ _)) ?_
  rw [takesRecord_channel]
  exact afterLoad_notLoading _ _ _

/-- Alone at the memory the count's slot leads to the link's. -/
theorem load_count_alone (n : Nat) {w : Word} (hl : (s.channels[c]).state = .loading (.count w)) (ha : aloneAtMemory s c) :
    serveSlots inLoad c (n + 2) s = (s.served c).takesRecord c
      ((s.channels[c]).afterLoad (loadCheck s c w (Memory.read s.xmem.mem ((s.channels[c]).ccb.toNat + 1)))
        (Memory.read s.xmem.mem ((s.channels[c]).ccb.toNat + 3))) := by
  have hread (x : ChState) : ((s.served c).setChannel c ((s.channels[c]).inState x)).channels[c] = (s.channels[c]).inState x :=
    setChannel_channel _ _ _
  have hlink (v : Word) := congrArg ChannelRec.state (hread (.loading (.link w v)))
  refine (load_count (n + 1) hl (ha.turnOf (by rw [hl]; rfl))).trans ?_
  refine (load_link n (hlink _) ((ha.withRecord rfl).turnOf (by rw [hlink]; rfl))).trans ?_
  rw [hread, afterLoad_inState]
  exact setChannel_takesRecord (s.served c) c _ _

/-- Alone at the memory three slots load a CCB. -/
theorem load_control_alone (n : Nat) (hl : (s.channels[c]).state = .loading .control) (ha : aloneAtMemory s c) :
    serveSlots inLoad c (n + 3) s = (s.served c).takesRecord c
      ((s.channels[c]).afterLoad
        (loadCheck s c (Memory.read s.xmem.mem (s.channels[c]).ccb.toNat)
          (Memory.read s.xmem.mem ((s.channels[c]).ccb.toNat + 1)))
        (Memory.read s.xmem.mem ((s.channels[c]).ccb.toNat + 3))) := by
  have hread (x : ChState) : ((s.served c).setChannel c ((s.channels[c]).inState x)).channels[c] = (s.channels[c]).inState x :=
    setChannel_channel _ _ _
  have hcount (w : Word) := congrArg ChannelRec.state (hread (.loading (.count w)))
  refine (load_control (n + 2) hl (ha.turnOf (by rw [hl]; rfl))).trans ?_
  refine (load_count_alone n (hcount _) (ha.withRecord rfl)).trans ?_
  rw [hread, afterLoad_inState]
  exact setChannel_takesRecord (s.served c) c _ _

/-- The control word a LOAD checks: the one read, or the one it reads first. -/
def LoadStep.controlWord (l : LoadStep) (first : Word) : Word :=
  match l with
  | .control => first
  | .count w => w
  | .link w _ => w

/-- The count a LOAD checks: the one read, or the one it reads second. -/
def LoadStep.countWord (l : LoadStep) (second : Word) : Word :=
  match l with
  | .control => second
  | .count _ => second
  | .link _ v => v

theorem load_finishes {n : Nat} {l : LoadStep} (hl : (s.channels[c]).state = .loading l)
    (h : ((∃ w v, l = .link w v) ∧ turnOf s c) ∨ (aloneAtMemory s c ∧ 2 ≤ n)) :
    exec (.ccbLoad ⟨c, n + 1⟩) s = .next ((s.served c).takesRecord c
      ((s.channels[c]).afterLoad
        (loadCheck s c (l.controlWord (Memory.read s.xmem.mem (s.channels[c]).ccb.toNat))
          (l.countWord (Memory.read s.xmem.mem ((s.channels[c]).ccb.toNat + 1))))
        (Memory.read s.xmem.mem ((s.channels[c]).ccb.toNat + 3)))) := by
  refine congrArg Host.Outcome.next ?_
  dsimp only
  obtain ⟨⟨w, v, rfl⟩, hturn⟩ | ⟨halone, hn⟩ := h
  · exact load_link n hl hturn
  · obtain ⟨m, rfl⟩ := Nat.exists_eq_add_of_le' hn
    cases l with
    | control => exact load_control_alone m hl halone
    | count w => exact load_count_alone (m + 1) hl halone
    | link w v => exact load_link (m + 2) hl (halone.turnOf (by rw [hl]; rfl))

theorem takesRecord_faulted (s : State) (c : Channel) (r : ChannelRec) (x : Reason) : s.takesRecord c (r.ends .faulted x) =
    (s.setChannel c (r.ends .faulted x)).toRun (runAfterTrigger s.cfg.haltOnError s.busy s.engine.run) := by
  have htrigger : (s.cfg.haltOnError && (r.ends .faulted x).state == .faulted) = s.cfg.haltOnError := Bool.and_true _
  rw [State.takesRecord, htrigger]

/-- Work that still holds the bus does not fault its channel as it goes on. -/
theorem resumed_notFaulted (r : ChannelRec) : ((r.resumed false).state == .faulted) = false := by
  unfold ChannelRec.resumed
  split
  · rfl
  · rw [if_neg Bool.false_ne_true]
    rfl

/-- A record that is ACTIVE or ENDED is no halt trigger. -/
theorem takesRecord_resumed (s : State) (c : Channel) (r : ChannelRec) :
    s.takesRecord c (r.resumed false) = s.setChannel c (r.resumed false) :=
  takesRecord_of_not_faulted (resumed_notFaulted r)

end

/-- Settles O47: slot by slot, then by the answer of the checks. -/
theorem ccbLoadChecks : Obligations.CcbLoadChecks := by
  intro s c n
  refine ⟨fun ⟨l, hl⟩ => ?_, fun hl ht => ?_, fun w hl ht => ?_, fun l hl h => ?_, fun hnone => ?_⟩
  · obtain ⟨hzero, hturn⟩ := slots_by_turn (inStep := inLoad) (s := s) (c := c) n (by rw [hl]; rfl)
    exact ⟨congrArg _ hzero, fun d hd => congrArg _ (hturn d hd)⟩
  · exact congrArg _ (load_control 0 hl ht)
  · exact congrArg _ (load_count 0 hl ht)
  · have hfinish := load_finishes hl h
    have hfaults {x : Reason} (hcheck : loadCheck s c (l.controlWord (Memory.read s.xmem.mem (s.channels[c]).ccb.toNat))
        (l.countWord (Memory.read s.xmem.mem ((s.channels[c]).ccb.toNat + 1))) = .error x) :
        exec (.ccbLoad ⟨c, n + 1⟩) s = .next (((s.served c).setChannel c ((s.channels[c]).ends .faulted x)).toRun
          (runAfterTrigger s.cfg.haltOnError s.busy s.engine.run)) := by
      rw [hfinish, hcheck]
      exact congrArg _ (takesRecord_faulted _ _ _ _)
    refine ⟨fun hstation => hfaults (loadCheck_noStation _ hstation), fun m hm => ?_⟩
    have hk := controlOfWord_station hm
    refine ⟨fun hoff => hfaults (loadCheck_stationOff _ hk hoff), fun hon => ⟨fun hbad => ?_, fun hrouted hcount => ?_⟩⟩
    · exact hfaults ((loadCheck_enabled _ hk hon).trans (if_neg fun ⟨hr, hc⟩ => hbad.elim (fun h => h hr) hc))
    · have hcheck := (loadCheck_enabled (c := c) _ hk hon).trans (if_pos ⟨hrouted, hcount⟩)
      exact hfinish.trans ((congrArg (fun check => Host.Outcome.next ((s.served c).takesRecord c
        ((s.channels[c]).afterLoad check _))) hcheck).trans (congrArg _ (takesRecord_resumed _ _ _)))
  · refine congrArg _ (serveSlots_stop _ _ _ ?_)
    cases hx : (s.channels[c]).state with
    | loading l => exact absurd hx (hnone l)
    | idle | active | moving | ended | faulted => rfl

end Sys2Proof.Machine
end

section
/-! PROOFS. The count and address steps of a channel word, with its range check (R130 to R132). -/

namespace Sys2Proof.Machine

/-! ### Which steps are over (R130, R131) -/

theorem inCountStep_iff (x : ChState) : inCountStep x = true ↔
    x = .moving .countRead ∨ x = .moving .countWrite ∨ x = .moving .zeroAddrRead := by
  simp [inCountStep, or_assoc]

theorem inAddressStep_iff (x : ChState) : inAddressStep x = true ↔ x = .moving .addrRead ∨ x = .moving .addrWrite := by
  simp [inAddressStep]

section
variable {s u : State} {c : Channel} {k : Control} {v : Word}

/-- A word that fails with its count kept rolls back. -/
theorem startRollback_withRecord {y : ChannelRec} (e : WordEnd) (hv : y.keptCount = some v) :
    startRollback c e (u.setChannel c y) = u.setChannel c (y.inState (.moving (.rollCount e))) := by
  have hy := setChannel_channel u c y
  rw [startRollback_kept e (by rw [hy]; exact hv), hy, setChannel_takesRecord]
  exact takesRecord_of_not_faulted rfl

/-- What follows the range check (R132): RANGE, then STATION_OFF, else the data step. -/
def Profile.afterRange (p : Profile) (k : Control) : WordStep :=
  if p.registerCount.toNat ≤ k.offset.toNat then .rollCount (.fault .range)
  else if p.enabled = false then .rollCount (.fault .stationOff)
  else if k.out then .outRead else .ask none

theorem afterRange_outside (p : Profile) (k : Control) : inAddressStep (.moving (p.afterRange k)) = false := by
  unfold Profile.afterRange
  (repeat' split) <;> rfl

theorem rangeCheck_withRecord {y : ChannelRec} (hv : y.keptCount = some v) :
    rangeCheck c k (u.setChannel c y) = u.setChannel c (y.inState (.moving ((u.profiles[k.station]).afterRange k))) := by
  have hy := setChannel_channel u c y
  have hmoves (x : WordStep) : (u.setChannel c y).setChannel c { (u.setChannel c y).channels[c] with state := .moving x } =
      u.setChannel c (y.inState (.moving x)) := by
    rw [hy, setChannel_setChannel]
    rfl
  unfold rangeCheck Profile.afterRange
  simp only [State.setChannel_profiles, Bool.not_eq_true']
  rw [startRollback_withRecord _ hv, startRollback_withRecord _ hv, hmoves]
  by_cases hrange : (u.profiles[k.station]).registerCount.toNat ≤ k.offset.toNat
  · rw [if_pos hrange, if_pos hrange]
  · by_cases hoff : (u.profiles[k.station]).enabled = false
    · rw [if_neg hrange, if_neg hrange, if_pos hoff, if_pos hoff]
    · rw [if_neg hrange, if_neg hrange, if_neg hoff, if_neg hoff]

/-! ### The accesses of the count step (R130) -/

/-- The count read: a count 0000h leads to the address read of the fault path. -/
theorem access_countRead (hx : (s.channels[c]).state = .moving .countRead) (hk : (s.channels[c]).control = some k) :
    channelAccess c s = (s.served c).setChannel c
      { s.channels[c] with
        keptCount := some (Memory.read s.xmem.mem ((s.channels[c]).ccb.toNat + 1))
        state := .moving (if Memory.read s.xmem.mem ((s.channels[c]).ccb.toNat + 1) = 0 then .zeroAddrRead else .countWrite) } :=
  channelAccess_moving (by rw [hx]; rfl) hx hk

theorem access_countWrite (hx : (s.channels[c]).state = .moving .countWrite) (hk : (s.channels[c]).control = some k)
    (hv : (s.channels[c]).keptCount = some v) :
    channelAccess c s = ((s.served c).setMem (Memory.write s.xmem.mem ((s.channels[c]).ccb.toNat + 1) (v + 1))).setChannel c
      ((s.channels[c]).inState (.moving .addrRead)) := by
  have hcount : (s.channels[c]).keptCount.getD 0 = v := by rw [hv]; rfl
  rw [channelAccess_moving (by rw [hx]; rfl) hx hk, ← hcount]
  rfl

/-- The fault path of a count 0000h: the address is kept, and the word rolls back to BAD_CCB. -/
theorem access_zeroAddrRead (hx : (s.channels[c]).state = .moving .zeroAddrRead) (hk : (s.channels[c]).control = some k)
    (hv : (s.channels[c]).keptCount = some v) :
    channelAccess c s = (s.served c).setChannel c
      { s.channels[c] with
        keptAddress := some (Memory.read s.xmem.mem ((s.channels[c]).ccb.toNat + 2))
        state := .moving (.rollCount (.fault .badCcb)) } :=
  (channelAccess_moving (by rw [hx]; rfl) hx hk).trans (startRollback_withRecord _ hv)

/-! ### The accesses of the address step (R131, R132) -/

/-- The record with the address read kept. -/
def ChannelRec.keepingAddress (r : ChannelRec) (a : Word) : ChannelRec := { r with keptAddress := some a }

/-- The address word of a channel's CCB. -/
def State.addressWord (s : State) (c : Channel) : Word := Memory.read s.xmem.mem ((s.channels[c]).ccb.toNat + 2)

theorem access_addrRead (hx : (s.channels[c]).state = .moving .addrRead) (hk : (s.channels[c]).control = some k) :
    channelAccess c s =
      if 0xFFF < (s.addressWord c).toNat + (if k.hold then 0 else 1) then
        startRollback c (.fault .address) ((s.served c).setChannel c ((s.channels[c]).keepingAddress (s.addressWord c)))
      else if k.hold then
        rangeCheck c k ((s.served c).setChannel c ((s.channels[c]).keepingAddress (s.addressWord c)))
      else
        ((s.served c).setChannel c ((s.channels[c]).keepingAddress (s.addressWord c))).setChannel c
          (((s.channels[c]).keepingAddress (s.addressWord c)).inState (.moving .addrWrite)) :=
  channelAccess_moving (by rw [hx]; rfl) hx hk

/-- An address whose word would lie above FFFh faults, with the address kept. -/
theorem access_addrRead_fails (hx : (s.channels[c]).state = .moving .addrRead) (hk : (s.channels[c]).control = some k)
    (hv : (s.channels[c]).keptCount = some v) (h : 0xFFF < (s.addressWord c).toNat + (if k.hold then 0 else 1)) :
    channelAccess c s = (s.served c).setChannel c
      (((s.channels[c]).keepingAddress (s.addressWord c)).inState (.moving (.rollCount (.fault .address)))) := by
  rw [access_addrRead hx hk, if_pos h]
  exact startRollback_withRecord _ hv

/-- With HOLD set the address is not advanced, and the range check follows. -/
theorem access_addrRead_holds (hx : (s.channels[c]).state = .moving .addrRead) (hk : (s.channels[c]).control = some k)
    (hv : (s.channels[c]).keptCount = some v) (hhold : k.hold = true) (h : (s.addressWord c).toNat ≤ 0xFFF) :
    channelAccess c s = (s.served c).setChannel c
      (((s.channels[c]).keepingAddress (s.addressWord c)).inState (.moving ((s.profiles[k.station]).afterRange k))) := by
  have hin : ¬ 0xFFF < (s.addressWord c).toNat + (if k.hold then 0 else 1) := by
    rw [if_pos hhold]
    exact Nat.not_lt.mpr h
  rw [access_addrRead hx hk, if_neg hin, if_pos hhold]
  exact rangeCheck_withRecord hv

/-- With HOLD clear the advanced address is to be written. -/
theorem access_addrRead_advances (hx : (s.channels[c]).state = .moving .addrRead) (hk : (s.channels[c]).control = some k)
    (hhold : k.hold = false) (h : (s.addressWord c).toNat < 0xFFF) :
    channelAccess c s = (s.served c).setChannel c
      (((s.channels[c]).keepingAddress (s.addressWord c)).inState (.moving .addrWrite)) := by
  have hclear : ¬ k.hold = true := by rw [hhold]; exact Bool.false_ne_true
  have hin : ¬ 0xFFF < (s.addressWord c).toNat + (if k.hold then 0 else 1) := by
    rw [if_neg hclear]
    exact Nat.not_lt.mpr h
  rw [access_addrRead hx hk, if_neg hin, if_neg hclear]
  exact setChannel_setChannel _ _ _ _

/-- The address is advanced by 1, with HOLD clear, before the range check. -/
theorem access_addrWrite {b : Word} (hx : (s.channels[c]).state = .moving .addrWrite) (hk : (s.channels[c]).control = some k)
    (hv : (s.channels[c]).keptCount = some v) (hb : (s.channels[c]).keptAddress = some b) (hhold : k.hold = false) :
    channelAccess c s = ((s.served c).setMem (Memory.write s.xmem.mem ((s.channels[c]).ccb.toNat + 2) (b + 1))).setChannel c
      ((s.channels[c]).inState (.moving ((s.profiles[k.station]).afterRange k))) := by
  have haddr : BitVec.ofNat 16 (dataAddress s.channels[c] k) = b + 1 := by
    simp only [dataAddress, hb, hhold, Option.getD_some]
    exact BitVec.eq_of_toNat_eq (by simp)
  have hself (m : Memory) : (s.served c).setMem m = ((s.served c).setMem m).setChannel c s.channels[c] := by
    unfold State.setChannel
    rw [Fin.getElem_fin]
    exact congrArg (fun v => { (s.served c).setMem m with channels := v }) (Vector.set_getElem_self _).symm
  rw [channelAccess_moving (by rw [hx]; rfl) hx hk, ← haddr]
  change rangeCheck c k ((s.served c).setMem (Memory.write s.xmem.mem ((s.channels[c]).ccb.toNat + 2) _)) = _
  rw [hself]
  exact (rangeCheck_withRecord hv).trans rfl

/-! ### The last access, and two accesses of a channel alone at the memory -/

/-- The access that takes the channel out of the step leaves it with a record. -/
theorem serveSlots_lastRecord {inStep : ChState → Bool} {y : ChannelRec} (n : Nat) (hin : inStep (s.channels[c]).state = true)
    (ht : turnOf s c) (h : channelAccess c s = u.setChannel c y) (hout : inStep y.state = false) :
    serveSlots inStep c (n + 1) s = u.setChannel c y :=
  serveSlots_last n hin ht h (by rw [setChannel_channel]; exact hout)

/-- The first access leaves the channel in the step, the second takes it out. -/
theorem serveSlots_two {inStep : ChState → Bool} {t₁ t₂ : State} {y : ChannelRec} (m : Nat)
    (hin : inStep (s.channels[c]).state = true) (hw : wantsMemory (s.channels[c]).state = true) (ha : aloneAtMemory s c)
    (h₁ : channelAccess c s = t₁) (hch : t₁.channels = s.channels.set c y) (hy : inStep y.state = true)
    (hwy : wantsMemory y.state = true) (h₂ : channelAccess c t₁ = t₂) (hout : inStep (t₂.channels[c]).state = false) :
    serveSlots inStep c (m + 2) s = t₂ := by
  have hrec : t₁.channels[c] = y := by rw [hch, getElem_set_channel, if_pos rfl]
  rw [serveSlots_turn (m + 1) hin (ha.turnOf hw), h₁]
  rw [← hrec] at hy hwy
  exact serveSlots_last m hy ((ha.withRecord hch).turnOf hwy) h₂ hout

/-- The record of a channel that has read its count and is in another state. -/
def ChannelRec.keepingCount (r : ChannelRec) (w : Word) : ChannelRec := { r with keptCount := some w }

theorem keepingCount_self {r : ChannelRec} (hv : r.keptCount = some v) : r.keepingCount v = r := by
  unfold ChannelRec.keepingCount
  rw [← hv]

theorem keepingAddress_self {r : ChannelRec} {b : Word} (hb : r.keptAddress = some b) : r.keepingAddress b = r := by
  unfold ChannelRec.keepingAddress
  rw [← hb]

/-- The count word of a channel's CCB. -/
def State.countWord (s : State) (c : Channel) : Word := Memory.read s.xmem.mem ((s.channels[c]).ccb.toNat + 1)

/-- Alone at the memory the count is kept and advanced in two slots. -/
theorem countStep_alone (m : Nat) (hx : (s.channels[c]).state = .moving .countRead) (hk : (s.channels[c]).control = some k)
    (ha : aloneAtMemory s c) (hz : s.countWord c ≠ 0) : serveSlots inCountStep c (m + 2) s =
      ((s.served c).setMem (Memory.write s.xmem.mem ((s.channels[c]).ccb.toNat + 1) (s.countWord c + 1))).setChannel c
        (((s.channels[c]).keepingCount (s.countWord c)).inState (.moving .addrRead)) := by
  have hread : channelAccess c s =
      (s.served c).setChannel c (((s.channels[c]).keepingCount (s.countWord c)).inState (.moving .countWrite)) :=
    (access_countRead hx hk).trans (congrArg (fun x => (s.served c).setChannel c
      (((s.channels[c]).keepingCount (s.countWord c)).inState (.moving x))) (if_neg hz))
  have hrec := setChannel_channel (s.served c) c (((s.channels[c]).keepingCount (s.countWord c)).inState (.moving .countWrite))
  refine serveSlots_two m (by rw [hx]; rfl) (by rw [hx]; rfl) ha hread rfl rfl rfl ?_ ?_
  · rw [access_countWrite (v := s.countWord c) (k := k) (by rw [hrec]; rfl) (by rw [hrec]; exact hk) (by rw [hrec]; rfl), hrec]
    exact setChannel_setChannel ((s.served c).setMem (Memory.write s.xmem.mem _ _)) c _ _
  · rw [setChannel_channel]
    rfl

/-- Alone at the memory a count 0000h faults BAD_CCB in two slots, with the address kept. -/
theorem countStep_zero_alone (m : Nat) (hx : (s.channels[c]).state = .moving .countRead) (hk : (s.channels[c]).control = some k)
    (ha : aloneAtMemory s c) (hz : s.countWord c = 0) : serveSlots inCountStep c (m + 2) s =
      (s.served c).setChannel c ((((s.channels[c]).keepingCount 0).keepingAddress (s.addressWord c)).inState
        (.moving (.rollCount (.fault .badCcb)))) := by
  have hread : channelAccess c s =
      (s.served c).setChannel c (((s.channels[c]).keepingCount 0).inState (.moving .zeroAddrRead)) := by
    rw [← hz]
    exact (access_countRead hx hk).trans (congrArg (fun x => (s.served c).setChannel c
      (((s.channels[c]).keepingCount (s.countWord c)).inState (.moving x))) (if_pos hz))
  have hrec := setChannel_channel (s.served c) c (((s.channels[c]).keepingCount 0).inState (.moving .zeroAddrRead))
  refine serveSlots_two m (by rw [hx]; rfl) (by rw [hx]; rfl) ha hread rfl rfl rfl ?_ ?_
  · rw [access_zeroAddrRead (v := 0) (k := k) (by rw [hrec]; rfl) (by rw [hrec]; exact hk) (by rw [hrec]; rfl), hrec]
    exact setChannel_setChannel (s.served c) c _ _
  · rw [setChannel_channel]
    rfl

/-- Alone at the memory the address is kept and advanced, and the range checked, in two slots. -/
theorem addressStep_alone (m : Nat) (hx : (s.channels[c]).state = .moving .addrRead) (hk : (s.channels[c]).control = some k)
    (hv : (s.channels[c]).keptCount = some v) (ha : aloneAtMemory s c) (hhold : k.hold = false)
    (h : (s.addressWord c).toNat < 0xFFF) : serveSlots inAddressStep c (m + 2) s =
      ((s.served c).setMem (Memory.write s.xmem.mem ((s.channels[c]).ccb.toNat + 2) (s.addressWord c + 1))).setChannel c
        (((s.channels[c]).keepingAddress (s.addressWord c)).inState (.moving ((s.profiles[k.station]).afterRange k))) := by
  have hrec := setChannel_channel (s.served c) c
    (((s.channels[c]).keepingAddress (s.addressWord c)).inState (.moving .addrWrite))
  refine serveSlots_two m (by rw [hx]; rfl) (by rw [hx]; rfl) ha (access_addrRead_advances hx hk hhold h) rfl rfl rfl ?_ ?_
  · rw [access_addrWrite (v := v) (b := s.addressWord c) (k := k) (by rw [hrec]; rfl) (by rw [hrec]; exact hk)
      (by rw [hrec]; exact hv) (by rw [hrec]; rfl) hhold, hrec]
    exact setChannel_setChannel ((s.served c).setMem (Memory.write s.xmem.mem _ _)) c _ _
  · rw [setChannel_channel]
    exact afterRange_outside _ k

end

/-- Settles O48: access by access, and two of them for a channel alone at the memory. -/
theorem countAndAddressSteps : Obligations.CountAndAddressSteps := by
  refine ⟨fun s c n => ⟨fun hx => ?_, fun hx => ?_⟩, fun s c k n hk => ?_, fun s c k v n hk hv => ?_⟩
  · obtain ⟨hzero, hturn⟩ := slots_by_turn n ((inCountStep_iff _).mpr hx)
    exact ⟨congrArg _ hzero, fun d hd => congrArg _ (hturn d hd)⟩
  · obtain ⟨hzero, hturn⟩ := slots_by_turn n ((inAddressStep_iff _).mpr hx)
    exact ⟨congrArg _ hzero, fun d hd => congrArg _ (hturn d hd)⟩
  · dsimp only
    refine ⟨fun hx ht => ?_, fun hx ha hn hz => ?_, fun hx ha hn hz => ?_, fun v hv hx ht => ?_, fun hv hx ht => ?_,
      fun h₁ h₂ h₃ => ?_⟩
    · exact congrArg _ ((serveSlots_one ((inCountStep_iff _).mpr (.inl hx)) ht).trans (access_countRead hx hk))
    · obtain ⟨m, rfl⟩ := Nat.exists_eq_add_of_le' hn
      exact congrArg _ (countStep_alone m hx hk ha hz)
    · obtain ⟨m, rfl⟩ := Nat.exists_eq_add_of_le' hn
      exact congrArg _ (countStep_zero_alone m hx hk ha hz)
    · have haccess := access_countWrite hx hk hv
      rw [← keepingCount_self hv] at haccess
      exact congrArg _ (serveSlots_lastRecord n ((inCountStep_iff _).mpr (.inr (.inl hx))) ht haccess rfl)
    · have haccess := access_zeroAddrRead hx hk hv
      rw [← keepingCount_self hv] at haccess
      exact congrArg _ (serveSlots_lastRecord n ((inCountStep_iff _).mpr (.inr (.inr hx))) ht haccess rfl)
    · refine congrArg _ (serveSlots_stop _ _ _ (Bool.eq_false_iff.mpr fun hin => ?_))
      obtain hx | hx | hx := (inCountStep_iff _).mp hin
      · exact h₁ hx
      · exact h₂ hx
      · exact h₃ hx
  · dsimp only
    refine ⟨fun hx ht => ⟨fun h => ?_, fun h hhold => ?_, fun h hhold => ⟨?_, fun ha hn => ?_⟩⟩, fun b hb hhold hx ht => ?_,
      fun h₁ h₂ => ?_⟩
    · exact congrArg _ (serveSlots_lastRecord n ((inAddressStep_iff _).mpr (.inl hx)) ht (access_addrRead_fails hx hk hv h) rfl)
    · exact congrArg _ (serveSlots_lastRecord n ((inAddressStep_iff _).mpr (.inl hx)) ht
        (access_addrRead_holds hx hk hv hhold h) (afterRange_outside _ k))
    · exact congrArg _ ((serveSlots_one ((inAddressStep_iff _).mpr (.inl hx)) ht).trans
        (access_addrRead_advances hx hk hhold h))
    · obtain ⟨m, rfl⟩ := Nat.exists_eq_add_of_le' hn
      exact congrArg _ (addressStep_alone m hx hk hv ha hhold h)
    · have haccess := access_addrWrite hx hk hv hb hhold
      rw [← keepingAddress_self hb] at haccess
      exact congrArg _ (serveSlots_lastRecord n ((inAddressStep_iff _).mpr (.inr hx)) ht haccess (afterRange_outside _ k))
    · refine congrArg _ (serveSlots_stop _ _ _ (Bool.eq_false_iff.mpr fun hin => ?_))
      obtain hx | hx := (inAddressStep_iff _).mp hin
      · exact h₁ hx
      · exact h₂ hx

end Sys2Proof.Machine
end

section
/-! PROOFS. The data step of a channel word (R90, R133) and the write of its IN word (R134, R138, R145). -/

namespace Sys2Proof.Machine

/-! ### Which steps are over (R133, R134) -/

theorem inOutRead_iff (x : ChState) : inOutRead x = true ↔ x = .moving .outRead := beq_iff_eq

theorem inDataWriteStep_iff (x : ChState) : inDataWriteStep x = true ↔ ∃ data, x = .moving (.inWrite data) := by
  cases x with
  | moving w => cases w <;> simp [inDataWriteStep]
  | idle | loading | active | ended | faulted => simp [inDataWriteStep]

section
variable {s : State} {c : Channel} {k : Control} {a : Word}

theorem dataAddress_kept {r : ChannelRec} (k : Control) (ha : r.keptAddress = some a) :
    dataAddress r k = a.toNat + (if k.hold then 0 else 1) := by
  rw [dataAddress, ha]
  rfl

/-! ### The data step (R90, R133) -/

/-- The word of an OUT step is read, and the cycle asked for. -/
theorem access_outRead (hx : (s.channels[c]).state = .moving .outRead) (hk : (s.channels[c]).control = some k)
    (ha : (s.channels[c]).keptAddress = some a) :
    channelAccess c s = (s.served c).setChannel c ((s.channels[c]).inState
      (.moving (.ask (some (Memory.read s.xmem.mem (a.toNat + (if k.hold then 0 else 1))))))) := by
  rw [channelAccess_moving (by rw [hx]; rfl) hx hk, ← dataAddress_kept k ha]
  rfl

/-- The cycle of a word that holds the bus begins with its first period, on the profile values of that moment (R4, R90). -/
theorem beginWordCycle_asks {w : BusWork} {data : Option Word} (hb : s.engine.bus = .cycle w)
    (hx : (s.channels[c]).state = .moving (.ask data)) (hk : (s.channels[c]).control = some k) (ho : w.owner = .channel c) :
    beginWordCycle c s =
      (s.setBus (.cycle { w with data := data.getD 0, cycle := some (newCycle (some s.profiles[k.station])) })).setChannel c
        ((s.channels[c]).inState (.moving .inCycle)) := by
  simp only [beginWordCycle, hb, hx, hk, if_pos ho]
  rw [← hk]
  rfl

/-- A channel that asks for no cycle begins none (assumption 2). -/
theorem beginWordCycle_otherwise (h : ∀ data, (s.channels[c]).state ≠ .moving (.ask data)) : beginWordCycle c s = s := by
  unfold beginWordCycle
  split
  · next data _ _ hx _ => exact absurd hx (h data)
  · rfl

/-- Outside the read of an OUT word the data step takes no slot. -/
theorem exec_channelDataStep_afterRead (n : Nat) (h : (s.channels[c]).state ≠ .moving .outRead) :
    exec (.channelDataStep ⟨c, n⟩) s = .next (beginWordCycle c s) :=
  congrArg (fun t => Host.Outcome.next (beginWordCycle c t))
    (serveSlots_stop _ _ _ (Bool.eq_false_iff.mpr fun hin => h ((inOutRead_iff _).mp hin)))

/-! ### The write of the IN word (R134, R138, R145) -/

/-- The write of the IN word takes its ACK. -/
theorem access_inWrite {data : Word} (hx : (s.channels[c]).state = .moving (.inWrite data))
    (hk : (s.channels[c]).control = some k) (ha : (s.channels[c]).keptAddress = some a) :
    channelAccess c s = channelAck c ((s.served c).setMem
      (Memory.write s.xmem.mem (a.toNat + (if k.hold then 0 else 1)) data)) := by
  rw [channelAccess_moving (by rw [hx]; rfl) hx hk, ← dataAddress_kept k ha]
  rfl

/-- After an ACK the channel is LOADING, ACTIVE, ENDED or FAULTED (R134, R138). -/
theorem afterAck_notMoving (r : ChannelRec) (k : Control) (lost : Bool) : (r.afterAck k lost).state.isMoving = false := by
  unfold ChannelRec.afterAck
  dsimp only
  (repeat' split) <;> rfl

theorem inDataWriteStep_of_notMoving {x : ChState} (h : x.isMoving = false) : inDataWriteStep x = false := by
  refine Bool.eq_false_iff.mpr fun hin => ?_
  obtain ⟨data, rfl⟩ := (inDataWriteStep_iff x).mp hin
  exact nomatch h

theorem channelAck_over (u : State) (c : Channel) (hk : (u.channels[c]).control = some k) :
    inDataWriteStep ((channelAck c u).channels[c]).state = false := by
  rw [channelAck_takes hk, takesRecord_channel]
  exact inDataWriteStep_of_notMoving (afterAck_notMoving _ _ _)

/-- The slot in turn writes the word and takes its ACK, and there is no other. -/
theorem exec_inDataWrite {data : Word} (n : Nat) (hx : (s.channels[c]).state = .moving (.inWrite data))
    (hk : (s.channels[c]).control = some k) (ha : (s.channels[c]).keptAddress = some a) (ht : turnOf s c) :
    exec (.inDataWrite ⟨c, n + 1⟩) s = .next (channelAck c ((s.served c).setMem
      (Memory.write s.xmem.mem (a.toNat + (if k.hold then 0 else 1)) data))) :=
  congrArg _ (serveSlots_last n ((inDataWriteStep_iff _).mpr ⟨data, hx⟩) ht (access_inWrite hx hk ha)
    (channelAck_over ((s.served c).setMem _) c hk))

end

/-- Settles O49: the cycle begins from the step that asks for it, and the IN word's write takes the ACK. -/
theorem dataStepAndInWrite : Obligations.DataStepAndInWrite := by
  refine ⟨fun s c k w n hk hb ho => ?_, fun s c k a data n hk ha hx ht => ?_,
    fun s c n => ⟨fun hx => ?_, fun hx => ?_, fun hx => ?_⟩⟩
  · dsimp only
    refine ⟨fun a ha hx ht => ?_, fun data hx => ?_, fun hread hask => ?_⟩
    · have hslot := serveSlots_lastRecord n ((inOutRead_iff _).mpr hx) ht (access_outRead hx hk ha) rfl
      refine (congrArg (fun t => Host.Outcome.next (beginWordCycle c t)) hslot).trans (congrArg _ ?_)
      have hrec := setChannel_channel (s.served c) c ((s.channels[c]).inState
        (.moving (.ask (some (Memory.read s.xmem.mem (a.toNat + (if k.hold then 0 else 1)))))))
      refine (beginWordCycle_asks (s := (s.served c).setChannel c _) (k := k) hb (by rw [hrec]; rfl) (by rw [hrec]; exact hk)
        ho).trans ?_
      rw [hrec]
      exact setChannel_setChannel ((s.served c).setBus _) c _ _
    · rw [exec_channelDataStep_afterRead n (by rw [hx]; exact fun h => nomatch h), beginWordCycle_asks hb hx hk ho]
      rfl
    · rw [exec_channelDataStep_afterRead n hread, beginWordCycle_otherwise hask]
  · dsimp only
    rw [exec_inDataWrite n hx hk ha ht]
    refine ⟨fun w hb ho => congrArg _ ?_, fun hothers => congrArg _ ?_⟩
    · exact channelAck_owned (s := (s.served c).setMem _) hk (ownsBus_of_owner hb ho)
    · exact channelAck_lost (s := (s.served c).setMem _) hk (ownsBus_of_others hothers)
  · obtain ⟨-, hturn⟩ := slots_by_turn n ((inOutRead_iff _).mpr hx)
    refine ⟨congrArg _ (beginWordCycle_otherwise fun _ h => nomatch hx.symm.trans h), fun d hd => ?_⟩
    exact congrArg (fun t => Host.Outcome.next (beginWordCycle c t)) (hturn d hd)
  · obtain ⟨hzero, hturn⟩ := slots_by_turn n ((inDataWriteStep_iff _).mpr hx)
    exact ⟨congrArg _ hzero, fun d hd => congrArg _ (hturn d hd)⟩
  · exact congrArg _ (serveSlots_stop _ _ _ (Bool.eq_false_iff.mpr fun hin => ((inDataWriteStep_iff _).mp hin).elim hx))

end Sys2Proof.Machine
end

section
/-! PROOFS. The rollback of a channel word (R102, R135 to R137, R143, R145). -/

namespace Sys2Proof.Machine

/-! ### The rollback's writes (R137) -/

theorem inRollback_iff (x : ChState) : inRollback x = true ↔
    ∃ e, x = .moving (.rollCount e) ∨ x = .moving (.rollAddr e) := by
  cases x with
  | moving w => cases w <;> simp [inRollback]
  | idle | loading | active | ended | faulted => simp [inRollback]

theorem inRollback_of_notMoving {x : ChState} (h : x.isMoving = false) : inRollback x = false := by
  refine Bool.eq_false_iff.mpr fun hin => ?_
  obtain ⟨e, rfl | rfl⟩ := (inRollback_iff x).mp hin
  · exact nomatch h
  · exact nomatch h

/-- The memory with the record's count written back, where that is still to do. -/
def ChannelRec.countBack (r : ChannelRec) (e : WordEnd) (v : Word) (m : Memory) : Memory :=
  if r.state = .moving (.rollCount e) then Memory.write m (r.ccb.toNat + 1) v else m

/-- The memory with the record's address written back, where one is kept. -/
def ChannelRec.addressBack (r : ChannelRec) (m : Memory) : Memory :=
  match r.keptAddress with
  | some a => Memory.write m (r.ccb.toNat + 2) a
  | none => m

/-- The record of a channel that leaves MOVING after its rollback, under its station's limit (R135 to R137, R145). -/
def ChannelRec.afterRollback (r : ChannelRec) (limit : Nat) (e : WordEnd) (lost : Bool) : ChannelRec :=
  match e with
  | .fault x => r.ends .faulted x
  | .defer _ => r.afterDefer limit lost

theorem resumed_notMoving (r : ChannelRec) (lost : Bool) : (r.resumed lost).state.isMoving = false := by
  unfold ChannelRec.resumed
  (repeat' split) <;> rfl

theorem afterRollback_notMoving (r : ChannelRec) (limit : Nat) (e : WordEnd) (lost : Bool) :
    (r.afterRollback limit e lost).state.isMoving = false := by
  cases e with
  | fault x => rfl
  | defer _ =>
    unfold ChannelRec.afterRollback ChannelRec.afterDefer
    dsimp only
    split
    · rfl
    · exact resumed_notMoving _ _

/-- Where the channel stood in its word does not show in the record it leaves with. -/
theorem afterRollback_inState (r : ChannelRec) (x : ChState) (limit : Nat) (e : WordEnd) (lost : Bool) :
    (r.inState x).afterRollback limit e lost = r.afterRollback limit e lost := by
  cases e <;> rfl

section
variable {s u : State} {c : Channel} {k : Control} {v a : Word} {e : WordEnd}

theorem access_rollCount_last (hx : (s.channels[c]).state = .moving (.rollCount e)) (hk : (s.channels[c]).control = some k)
    (hv : (s.channels[c]).keptCount = some v) (ha : (s.channels[c]).keptAddress = none) :
    channelAccess c s =
      finishRollback c e ((s.served c).setMem (Memory.write s.xmem.mem ((s.channels[c]).ccb.toNat + 1) v)) := by
  have hcount : (s.channels[c]).keptCount.getD 0 = v := by rw [hv]; rfl
  rw [channelAccess_moving (by rw [hx]; rfl) hx hk, ← hcount]
  unfold wordAccess
  dsimp only
  split
  · rfl
  · next ha' => exact nomatch ha.symm.trans ha'

theorem access_rollCount (hx : (s.channels[c]).state = .moving (.rollCount e)) (hk : (s.channels[c]).control = some k)
    (hv : (s.channels[c]).keptCount = some v) (ha : (s.channels[c]).keptAddress = some a) :
    channelAccess c s = ((s.served c).setMem (Memory.write s.xmem.mem ((s.channels[c]).ccb.toNat + 1) v)).setChannel c
      ((s.channels[c]).inState (.moving (.rollAddr e))) := by
  have hcount : (s.channels[c]).keptCount.getD 0 = v := by rw [hv]; rfl
  rw [channelAccess_moving (by rw [hx]; rfl) hx hk, ← hcount]
  unfold wordAccess
  dsimp only
  split
  · next ha' => exact nomatch ha.symm.trans ha'
  · rfl

theorem access_rollAddr (hx : (s.channels[c]).state = .moving (.rollAddr e)) (hk : (s.channels[c]).control = some k)
    (ha : (s.channels[c]).keptAddress = some a) :
    channelAccess c s =
      finishRollback c e ((s.served c).setMem (Memory.write s.xmem.mem ((s.channels[c]).ccb.toNat + 2) a)) := by
  have haddr : (s.channels[c]).keptAddress.getD 0 = a := by rw [ha]; rfl
  rw [channelAccess_moving (by rw [hx]; rfl) hx hk, ← haddr]
  rfl

/-! ### The channel leaves MOVING (R135 to R137, R143, R145) -/

/-- The release of the bus does not look at the backoff timers. -/
theorem releaseBus_setBackoff (c : Channel) (n : Station) (b : Option Nat) (s : State) :
    (releaseBus c s).setBackoff n b = releaseBus c (s.setBackoff n b) := by
  have hown : ownsBus c (s.setBackoff n b) = ownsBus c s := rfl
  unfold releaseBus
  rw [hown]
  split
  · unfold endBusWork
    rw [workEnded_eq, workEnded_eq]
    rfl
  · rfl

/-- A fault ends the bus work and faults the channel; so does a DEFER at the limit, or one whose bus work a reset has ended. -/
theorem leaveMoving_untimed (hk : (u.channels[c]).control = some k)
    (h : ∀ elapsed, e = .defer elapsed →
      (u.profiles[k.station]).deferLimit.toNat ≤ (u.channels[c]).defers + 1 ∨ ownsBus c u = false) :
    leaveMoving c e u = (releaseBus c u).takesRecord c
      ((u.channels[c]).afterRollback (u.profiles[k.station]).deferLimit.toNat e (!ownsBus c u)) := by
  have hrec : (releaseBus c u).channels[c] = u.channels[c] := by rw [releaseBus_channels]
  have hprofiles := releaseBus_profiles c u
  cases e with
  | fault x =>
    rw [leaveMoving, enterFaulted_takes, hrec]
    rfl
  | defer elapsed =>
    have hcase := (h elapsed rfl).imp_right fun hlost => congrArg Bool.not hlost
    rw [← hrec] at hk hcase ⊢
    rw [← hprofiles] at hcase ⊢
    exact handleChannelDefer_untimed elapsed hk hcase

/-- A DEFER below the limit of a word that holds the bus starts the station's timer (R55; assumption 17). -/
theorem leaveMoving_timed {elapsed : Nat} (hk : (u.channels[c]).control = some k) (hown : ownsBus c u = true)
    (h : (u.channels[c]).defers + 1 < (u.profiles[k.station]).deferLimit.toNat) :
    leaveMoving c (.defer elapsed) u =
      (releaseBus c (u.setBackoff k.station
        (some (max 1 (8 * (u.profiles[k.station]).retryInterval.toNat - elapsed))))).takesRecord c
          ((u.channels[c]).deferred.resumed false) := by
  have hrec : (releaseBus c u).channels[c] = u.channels[c] := by rw [releaseBus_channels]
  have hprofiles := releaseBus_profiles c u
  have hafter : (u.channels[c]).afterDefer (u.profiles[k.station]).deferLimit.toNat false =
      (u.channels[c]).deferred.resumed false :=
    if_neg (Nat.not_le.mpr h)
  rw [← hafter, ← releaseBus_setBackoff, leaveMoving, hown]
  rw [← hrec] at hk h ⊢
  rw [← hprofiles] at h ⊢
  exact handleChannelDefer_timed elapsed hk h

/-- A DEFER that reaches the limit ends the bus work, and the channel faults. -/
theorem leaveMoving_atLimit {elapsed : Nat} (hk : (u.channels[c]).control = some k) (hown : ownsBus c u = true)
    (h : (u.profiles[k.station]).deferLimit.toNat ≤ (u.channels[c]).defers + 1) :
    leaveMoving c (.defer elapsed) u =
      ((u.setBus .idle).setChannel c ((u.channels[c]).deferred.ends .faulted .deferLimit)).toRun
        (runAfterWork u.cfg.haltOnError u.engine.run) := by
  have hafter : (u.channels[c]).afterRollback (u.profiles[k.station]).deferLimit.toNat (.defer elapsed) (!ownsBus c u) =
      (u.channels[c]).deferred.ends .faulted .deferLimit := if_pos h
  have htrigger : (u.cfg.haltOnError && ((u.channels[c]).deferred.ends .faulted .deferLimit).state == .faulted) =
      u.cfg.haltOnError := Bool.and_true _
  rw [leaveMoving_untimed hk fun _ _ => .inl h, hafter, releaseBus_takesRecord hown, htrigger]

/-- A DEFER below the limit ends the bus work, starts the timer, and the channel goes on unless it is to stop. -/
theorem leaveMoving_belowLimit {elapsed : Nat} (hk : (u.channels[c]).control = some k) (hown : ownsBus c u = true)
    (h : (u.channels[c]).defers + 1 < (u.profiles[k.station]).deferLimit.toNat) :
    leaveMoving c (.defer elapsed) u =
      (((u.setBackoff k.station
        (some (max 1 (8 * (u.profiles[k.station]).retryInterval.toNat - elapsed)))).setBus .idle).setChannel c
          ((u.channels[c]).deferred.resumed false)).toRun (runAfterWork false u.engine.run) := by
  have hown' (b : Option Nat) : ownsBus c (u.setBackoff k.station b) = true := hown
  rw [leaveMoving_timed hk hown h, releaseBus_takesRecord (hown' _), resumed_notFaulted, Bool.and_false]
  rfl

/-- After a bus reset has ended the bus work the channel takes its record alone (R145). -/
theorem leaveMoving_lost (hk : (u.channels[c]).control = some k) (hlost : ownsBus c u = false) : leaveMoving c e u =
    u.takesRecord c ((u.channels[c]).afterRollback (u.profiles[k.station]).deferLimit.toNat e true) := by
  rw [leaveMoving_untimed hk fun _ _ => .inr hlost, hlost, releaseBus_lost hlost]
  rfl

theorem leaveMoving_channels (hk : (u.channels[c]).control = some k) : (leaveMoving c e u).channels =
    u.channels.set c ((u.channels[c]).afterRollback (u.profiles[k.station]).deferLimit.toNat e (!ownsBus c u)) := by
  have hrec : (releaseBus c u).channels[c] = u.channels[c] := by rw [releaseBus_channels]
  cases e with
  | fault x =>
    rw [leaveMoving, enterFaulted_takes, hrec, ← releaseBus_channels c u]
    rfl
  | defer elapsed =>
    rw [leaveMoving, handleChannelDefer_channels elapsed _ (by rw [hrec]; exact hk), hrec, releaseBus_channels,
      releaseBus_profiles]
    rfl

/-- Where the channel stood in its word does not show in the state it leaves. -/
theorem leaveMoving_inState (x : ChState) (hk : (u.channels[c]).control = some k) :
    leaveMoving c e (u.setChannel c ((u.channels[c]).inState x)) = leaveMoving c e u := by
  have hrec := setChannel_channel u c ((u.channels[c]).inState x)
  have hk' : ((u.setChannel c ((u.channels[c]).inState x)).channels[c]).control = some k := by rw [hrec]; exact hk
  by_cases h : ∀ elapsed, e = .defer elapsed →
      (u.profiles[k.station]).deferLimit.toNat ≤ (u.channels[c]).defers + 1 ∨ ownsBus c u = false
  · rw [leaveMoving_untimed hk h, leaveMoving_untimed hk' (by rw [hrec]; exact h), hrec, releaseBus_setChannel,
      setChannel_takesRecord, afterRollback_inState]
    rfl
  · push Not at h
    obtain ⟨elapsed, rfl, hbelow, hown⟩ := h
    have hown : ownsBus c u = true := by simpa using hown
    rw [leaveMoving_timed hk hown hbelow, leaveMoving_timed hk' hown (by rw [hrec]; exact hbelow), hrec]
    exact (congrArg (State.takesRecord · c _) (releaseBus_setChannel c _ (u.setBackoff k.station _))).trans
      (setChannel_takesRecord _ _ _ _)

theorem finishRollback_inState (x : ChState) (hk : (u.channels[c]).control = some k) :
    finishRollback c e (u.setChannel c ((u.channels[c]).inState x)) = finishRollback c e u := by
  have hrec := setChannel_channel u c ((u.channels[c]).inState x)
  unfold finishRollback
  dsimp only
  rw [leaveMoving_inState x hk, hrec]
  rfl

/-- Unless it is a hang that holds the bus, the rollback ends as the channel leaves MOVING. -/
theorem finishRollback_leaves (h : e ≠ .fault .busHang ∨ ownsBus c u = false) :
    finishRollback c e u = leaveMoving c e u := by
  refine if_neg fun hboth => ?_
  obtain ⟨hown, hhang⟩ := Bool.and_eq_true_iff.mp hboth
  exact h.elim (fun hne => hne (beq_iff_eq.mp hhang)) fun hlost => Bool.false_ne_true (hlost.symm.trans hown)

theorem finishRollback_defer (c : Channel) (elapsed : Nat) (u : State) :
    finishRollback c (.defer elapsed) u = leaveMoving c (.defer elapsed) u :=
  finishRollback_leaves (.inl fun hf => nomatch hf)

/-- A failure that holds the bus ends its bus work, and the channel faults. -/
theorem leaveMoving_faults {x : Reason} (hown : ownsBus c u = true) : leaveMoving c (.fault x) u =
    ((u.setBus .idle).setChannel c ((u.channels[c]).ends .faulted x)).toRun
      (runAfterWork u.cfg.haltOnError u.engine.run) := by
  have htrigger : (u.cfg.haltOnError && ((u.channels[c]).ends .faulted x).state == .faulted) = u.cfg.haltOnError :=
    Bool.and_true _
  have hrec : (releaseBus c u).channels[c] = u.channels[c] := by rw [releaseBus_channels]
  rw [leaveMoving, enterFaulted_takes, hrec, releaseBus_takesRecord hown, htrigger]

/-- Under halt-on-error the reset after a failure brings no halt of its own (R98, R102). -/
theorem startBusReset_afterFailure (hb : s.engine.bus = .idle) :
    startBusReset (s.toRun (runAfterWork s.cfg.haltOnError s.engine.run)) =
      (s.busReset false).toRun (runAfterWork s.cfg.haltOnError s.engine.run) := by
  rw [startBusReset_afterWork hb, haltOnError_or_resetTriggers]

/-- A hang that holds the bus is written to FAULT, and the automatic bus reset starts (R102). -/
theorem finishRollback_hang (hk : (u.channels[c]).control = some k) (hown : ownsBus c u = true) :
    finishRollback c (.fault .busHang) u =
      (({ (u.setBus .idle).setChannel c ((u.channels[c]).ends .faulted .busHang) with
        fault := faultAfter u.fault .busHang (some k.station) } : State).busReset false).toRun
          (runAfterWork u.cfg.haltOnError u.engine.run) := by
  have hhang : (ownsBus c u && WordEnd.fault .busHang == .fault .busHang) = true := by rw [hown]; exact beq_self_eq_true _
  unfold finishRollback
  dsimp only
  rw [if_pos hhang, hk, leaveMoving_faults hown, writeFault_eq]
  exact startBusReset_afterFailure (s := { (u.setBus .idle).setChannel c ((u.channels[c]).ends .faulted .busHang) with
    fault := faultAfter u.fault .busHang (some k.station) }) rfl

/-- A rollback leaves its channel out of MOVING. -/
theorem finishRollback_over (hk : (u.channels[c]).control = some k) :
    inRollback ((finishRollback c e u).channels[c]).state = false := by
  by_cases h : e ≠ .fault .busHang ∨ ownsBus c u = false
  · rw [finishRollback_leaves h, leaveMoving_channels hk, getElem_set_channel, if_pos rfl]
    exact inRollback_of_notMoving (afterRollback_notMoving _ _ _ _)
  · push Not at h
    obtain ⟨rfl, hown⟩ := h
    have hown : ownsBus c u = true := by simpa using hown
    have hrec : (finishRollback c (.fault .busHang) u).channels[c] = ((u.channels[c]).ends .faulted .busHang).atReset := by
      rw [finishRollback_hang hk hown]
      exact (Vector.getElem_map _ _).trans (congrArg ChannelRec.atReset (setChannel_channel (u.setBus .idle) c _))
    rw [hrec]
    rfl

/-! ### The slots of a rollback (R113, R137) -/

/-- The rollback is done: by the slot in turn where one write is left, and by two for a channel alone at the memory. -/
theorem rollback_finishes {n : Nat} (hk : (s.channels[c]).control = some k) (hv : (s.channels[c]).keptCount = some v)
    (hx : (s.channels[c]).state = .moving (.rollCount e) ∨
      ((s.channels[c]).state = .moving (.rollAddr e) ∧ (s.channels[c]).keptAddress.isSome = true))
    (h : (turnOf s c ∧ ((s.channels[c]).state = .moving (.rollAddr e) ∨ (s.channels[c]).keptAddress = none)) ∨
      (aloneAtMemory s c ∧ 1 ≤ n)) :
    exec (.channelRollback ⟨c, n + 1⟩) s = .next (finishRollback c e ((s.served c).setMem
      ((s.channels[c]).addressBack ((s.channels[c]).countBack e v s.xmem.mem)))) := by
  have hwants : wantsMemory (s.channels[c]).state = true := by
    obtain hx | ⟨hx, -⟩ := hx <;> rw [hx] <;> rfl
  have hin : inRollback (s.channels[c]).state = true := by
    obtain hx | ⟨hx, -⟩ := hx <;> rw [hx] <;> rfl
  have hturn : turnOf s c := h.elim And.left fun halone => halone.1.turnOf hwants
  refine congrArg Host.Outcome.next ?_
  obtain hx | ⟨hx, ha⟩ := hx
  · have hcount : (s.channels[c]).countBack e v s.xmem.mem = Memory.write s.xmem.mem ((s.channels[c]).ccb.toNat + 1) v :=
      if_pos hx
    cases ha : (s.channels[c]).keptAddress with
    | none =>
      rw [hcount, ChannelRec.addressBack, ha]
      exact serveSlots_last n hin hturn (access_rollCount_last hx hk hv ha) (finishRollback_over hk)
    | some a =>
      obtain ⟨halone, hn⟩ : aloneAtMemory s c ∧ 1 ≤ n := h.resolve_left fun ⟨_, hone⟩ => by
        rw [hx, ha] at hone
        exact hone.elim (fun hf => nomatch hf) fun hf => nomatch hf
      obtain ⟨m, rfl⟩ := Nat.exists_eq_add_of_le' hn
      have hrec := setChannel_channel ((s.served c).setMem (Memory.write s.xmem.mem ((s.channels[c]).ccb.toNat + 1) v)) c
        ((s.channels[c]).inState (.moving (.rollAddr e)))
      rw [hcount, ChannelRec.addressBack, ha]
      refine serveSlots_two m hin hwants halone (access_rollCount hx hk hv ha) rfl rfl rfl ?_ (finishRollback_over hk)
      rw [access_rollAddr (k := k) (a := a) (e := e) (by rw [hrec]; rfl) (by rw [hrec]; exact hk) (by rw [hrec]; exact ha), hrec]
      exact finishRollback_inState (u := (s.served c).setMem (Memory.write (Memory.write _ _ _) _ _)) _ hk
  · obtain ⟨a, ha⟩ := Option.isSome_iff_exists.mp ha
    have hcount : (s.channels[c]).countBack e v s.xmem.mem = s.xmem.mem := if_neg (by rw [hx]; exact fun hf => nomatch hf)
    rw [hcount, ChannelRec.addressBack, ha]
    exact serveSlots_last n hin hturn (access_rollAddr hx hk ha) (finishRollback_over hk)

end

/-- Settles O50: by the end the rollback has, once its writes are done. -/
theorem rollbackRestoresCcb : Obligations.RollbackRestoresCcb := by
  refine ⟨fun s c k v e w n hk hv hb ho hx h => ?_, fun s c k n hk hothers v e hv hx h => ?_,
    fun s c n => ⟨fun ⟨e, hx⟩ => ?_, fun k v e hk hv ha hx ht => ?_, fun hcount haddr => ?_⟩⟩
  · have hdone := rollback_finishes hk hv hx h
    have hown (m : Memory) : ownsBus c ((s.served c).setMem m) = true := ownsBus_of_owner hb ho
    dsimp only
    refine ⟨fun reason he hne => ?_, fun he => ?_, fun elapsed he => ⟨fun hlimit => ?_, fun hbelow => ?_⟩⟩
    · subst he
      rw [hdone, finishRollback_leaves (.inl fun hf => hne (WordEnd.fault.inj hf)), leaveMoving_faults (hown _)]
      rfl
    · subst he
      exact hdone.trans (congrArg _ (finishRollback_hang (u := (s.served c).setMem _) hk (hown _)))
    · subst he
      rw [hdone, finishRollback_defer]
      exact congrArg _ (leaveMoving_atLimit (u := (s.served c).setMem _) hk (hown _) hlimit)
    · subst he
      rw [hdone, finishRollback_defer]
      exact congrArg _ (leaveMoving_belowLimit (u := (s.served c).setMem _) hk (hown _) hbelow)
  · have hlost (m : Memory) : ownsBus c ((s.served c).setMem m) = false := ownsBus_of_others hothers
    have hleaves := (rollback_finishes hk hv hx h).trans (congrArg _ ((finishRollback_leaves (.inr (hlost _))).trans
      (leaveMoving_lost (u := (s.served c).setMem _) hk (hlost _))))
    cases e with
    | fault x => exact hleaves
    | defer elapsed => exact hleaves
  · obtain ⟨hzero, hturn⟩ := slots_by_turn n ((inRollback_iff _).mpr ⟨e, hx⟩)
    exact ⟨congrArg _ hzero, fun d hd => congrArg _ (hturn d hd)⟩
  · obtain ⟨a, ha⟩ := Option.isSome_iff_exists.mp ha
    exact congrArg _ ((serveSlots_one ((inRollback_iff _).mpr ⟨e, .inl hx⟩) ht).trans (access_rollCount hx hk hv ha))
  · refine congrArg _ (serveSlots_stop _ _ _ (Bool.eq_false_iff.mpr fun hin => ?_))
    obtain ⟨e, hx | hx⟩ := (inRollback_iff _).mp hin
    · exact hcount e hx
    · exact haddr e hx

end Sys2Proof.Machine
end

section
/-! PROOFS. The Attention Controller's own rules: the identify interval, the edges of SATN#, and an IDENTIFY's outcome taken station
by station (R149 to R161). -/

namespace Sys2Proof.Machine

/-! ### One station (R150, R155, R156) -/

/-- One station's flags after an answer bit, by the level of SATN# as the answer is taken (R155, R156). -/
def interpretBit (satn : Bool) : Bool → Routing → Sense → Bool → StationAttention → StationAttention :=
  if satn then interpretAsserted else interpretDeasserted

/-- The flags after an answer bit, flag by flag: pending moves on a line, fresh on a channel, and level pending, fresh and the
previous-answer bit only while SATN# is asserted. -/
theorem interpretBit_eq (satn enabled : Bool) (route : Routing) (sense : Sense) (b : Bool) (a : StationAttention) :
    interpretBit satn enabled route sense b a =
      { answer := b
        previous := if enabled && satn then b else a.previous
        pending :=
          if enabled && route.toLine.isSome then
            match sense with
            | .edge => a.pending || (b && !a.previous)
            | .level => if satn then b else a.pending
          else a.pending
        fresh := if enabled && satn && route.isChannel then b else a.fresh } := by
  cases enabled with
  | false => cases satn <;> rfl
  | true =>
    cases route with
    | masked | channel => cases satn <;> rfl
    | line => cases satn <;> cases sense <;> rfl

/-- A deassertion of SATN#: a level request goes, an edge request stays (R150). -/
theorem deassertStation_eq (sense : Sense) (a : StationAttention) : deassertStation sense a =
    { a with pending := (if sense = .level then false else a.pending), fresh := false, previous := false } := by
  cases sense <;> rfl

/-! ### An answer (R154, R161) -/

theorem enabledBitSet_iff (s : State) (a : Word) :
    enabledBitSet s a = true ↔ ∃ n : Station, (s.profiles[n]).enabled = true ∧ a.getLsbD n.number = true := by
  simp [enabledBitSet]

/-- The stations interpreted from an answer and the timer started, before the answer is counted (R154, steps 1 to 3). -/
def State.interpreted (s : State) (a : Word) : State :=
  startIntervalTimer { s with attn := { s.attn with stations := interpretAnswer s a } }

theorem takeAnswer_eq (a : Word) (s : State) : takeAnswer a s = countEmptyAnswer a (s.interpreted a) := rfl

theorem interpreted_station (s : State) (a : Word) (n : Station) : (s.interpreted a).attn.stations[n] =
    interpretBit s.attn.satn (s.profiles[n]).enabled (s.alerts.config[n.source]).routing s.alerts.sense[n] (a.getLsbD n.number)
      s.attn.stations[n] := by
  change (interpretAnswer s a)[n] = _
  unfold interpretAnswer
  rw [Fin.getElem_fin, Vector.getElem_ofFn]
  unfold interpretBit
  split <;> rfl

/-- Counting an answer moves the counter, the suspension and the fault record. -/
theorem countEmptyAnswer_counts (a : Word) (s : State) : countEmptyAnswer a s =
    { s with
      attn := { s.attn with
        emptyAnswers := (countEmptyAnswer a s).attn.emptyAnswers, suspended := (countEmptyAnswer a s).attn.suspended }
      fault := (countEmptyAnswer a s).fault } := by
  unfold countEmptyAnswer
  split
  · split
    · rfl
    · split
      · rw [writeFault_eq]
      · rfl
  · rfl

/-- An answer taken gives the stations their flags. -/
theorem takeAnswer_station (s : State) (a : Word) (n : Station) : (takeAnswer a s).attn.stations[n] =
    interpretBit s.attn.satn (s.profiles[n]).enabled (s.alerts.config[n.source]).routing s.alerts.sense[n] (a.getLsbD n.number)
      s.attn.stations[n] := by
  rw [takeAnswer_eq, countEmptyAnswer_counts]
  exact interpreted_station s a n

/-- An answer taken moves the stations, the timer, the counter, the suspension and the fault record (R154). -/
theorem takeAnswer_moves (s : State) (a : Word) : takeAnswer a s =
    { s with
      attn := { s.attn with
        stations := (takeAnswer a s).attn.stations, timer := .running (8 * s.attn.interval.toNat)
        emptyAnswers := (takeAnswer a s).attn.emptyAnswers, suspended := (takeAnswer a s).attn.suspended }
      fault := (takeAnswer a s).fault } := by
  have hcounts := countEmptyAnswer_counts a (s.interpreted a)
  have hstations : (takeAnswer a s).attn.stations = (s.interpreted a).attn.stations := by
    rw [takeAnswer_eq, hcounts]
  rw [hstations]
  exact hcounts

section
variable {s : State} {a : Word}

/-- An answer taken while SATN# is deasserted is not counted (R156). -/
theorem takeAnswer_deasserted (h : s.attn.satn = false) : takeAnswer a s = s.interpreted a := by
  have hsatn : (s.interpreted a).attn.satn = false := h
  simp [takeAnswer_eq, countEmptyAnswer, hsatn]

/-- An answer in which some enabled station requests clears the counter. -/
theorem takeAnswer_requested (h : s.attn.satn = true) (hbit : enabledBitSet s a = true) :
    takeAnswer a s = { s.interpreted a with attn := { (s.interpreted a).attn with emptyAnswers := 0 } } := by
  rw [takeAnswer_eq, countEmptyAnswer]
  exact (if_pos h).trans (if_pos hbit)

/-- The first three empty answers in a row are counted. -/
theorem takeAnswer_empty (h : s.attn.satn = true) (hbit : ¬ enabledBitSet s a = true) (hfew : s.attn.emptyAnswers < 3) :
    takeAnswer a s =
      { s.interpreted a with attn := { (s.interpreted a).attn with emptyAnswers := s.attn.emptyAnswers + 1 } } := by
  have hn : ¬ 4 ≤ s.attn.emptyAnswers + 1 := by omega
  rw [takeAnswer_eq, countEmptyAnswer]
  exact (if_pos h).trans ((if_neg hbit).trans (if_neg hn))

/-- The fourth writes ATN_STUCK and suspends the controller. -/
theorem takeAnswer_stuck (h : s.attn.satn = true) (hbit : ¬ enabledBitSet s a = true) (hfour : 3 ≤ s.attn.emptyAnswers) :
    takeAnswer a s =
      { s.interpreted a with
        attn := { (s.interpreted a).attn with emptyAnswers := 0, suspended := true }
        fault := faultAfter s.fault .atnStuck none } := by
  have hn : 4 ≤ s.attn.emptyAnswers + 1 := by omega
  rw [takeAnswer_eq, countEmptyAnswer]
  exact (if_pos h).trans ((if_neg hbit).trans ((if_pos hn).trans (writeFault_eq _ _ _)))

end

/-- The end of an IDENTIFY: the bus goes idle, the written divider is in effect, and the controller takes the outcome (R92). -/
theorem exec_cycleEnd_identify {s : State} {w : BusWork} {c : Cycle} {o : CycleOutcome} (hb : s.engine.bus = .cycle w)
    (hw : w.owner = .attention) (hc : w.cycle = some c) (ho : c.phase = .ending o) :
    exec .cycleEnd s = .next (attentionOutcome o (s.cycleOver.toRun (runAfterWork false s.engine.run))) := by
  have hdeliver : exec .cycleEnd s = .next (deliver w o (takeDivider s)) := by
    simp only [exec, execCycleEnd, hb, hc, ho]
  rw [hdeliver, deliver, hw, endBusWork_takeDivider]

/-- Settles O30: the stations by the table of one answer bit, the counter by the cases of R161; a parity failure keeps the flags. -/
theorem identifyOutcomeTaken : Obligations.IdentifyOutcomeTaken := by
  refine ⟨fun s w c a hb hw hc ho => ?_, fun s w c hb hw hc ho => ?_⟩
  · let v := s.cycleOver.toRun (runAfterWork false s.engine.run)
    have hbit : enabledBitSet v a = true ↔ ∃ n : Station, (s.profiles[n]).enabled = true ∧ a.getLsbD n.number = true :=
      enabledBitSet_iff v a
    refine ⟨takeAnswer a v, exec_cycleEnd_identify hb hw hc ho, ?_, takeAnswer_alerts_haltedPending a v, fun h => ?_, fun h => ?_,
      fun h hr => ?_, fun h hr hfew => ?_, fun h hr hfour => ?_, fun n => ?_⟩
    · rw [takeAnswer_alerts_haltedPending]
      exact takeAnswer_moves v a
    · cases hs : s.attn.satn with
      | false =>
        rw [takeAnswer_deasserted (s := v) hs]
        exact ⟨rfl, rfl⟩
      | true =>
        rw [takeAnswer_requested (s := v) hs (hbit.mpr (h.resolve_left (by simp [hs])))]
        exact ⟨rfl, rfl⟩
    · rw [takeAnswer_deasserted (s := v) h]
      rfl
    · rw [takeAnswer_requested (s := v) h (hbit.mpr hr)]
    · rw [takeAnswer_empty (s := v) h (mt hbit.mp hr) hfew]
      exact ⟨rfl, rfl, rfl⟩
    · rw [takeAnswer_stuck (s := v) h (mt hbit.mp hr) hfour]
      exact ⟨rfl, rfl, rfl⟩
    · have hstation : (takeAnswer a v).attn.stations[n] = interpretBit s.attn.satn (s.profiles[n]).enabled
          (s.alerts.config[n.source]).routing s.alerts.sense[n] (a.getLsbD n.number) s.attn.stations[n] :=
        takeAnswer_station v a n
      dsimp only
      rw [hstation, interpretBit_eq]
      generalize (s.profiles[n]).enabled = enabled, (s.alerts.config[n.source]).routing = route, s.alerts.sense[n] = sense,
        s.attn.satn = satn
      refine ⟨rfl, ?_, ?_, ?_, ?_, ?_, ?_, ?_⟩
      · rintro rfl rfl
        rfl
      · rintro (rfl | rfl) <;> simp
      · rintro rfl rfl hroute
        simp [hroute]
      · rintro (rfl | rfl | hroute) <;> simp [*]
      · rintro rfl hroute rfl
        simp [hroute]
      · rintro rfl hroute rfl
        simp [hroute]
      · rintro (rfl | hroute) <;> simp [*]
  · rw [exec_cycleEnd_identify hb hw hc ho, attentionOutcome, takeIdentifyParity, writeFault_eq]
    rfl

/-- Settles O29: an edge by what it clears, a level that stays by no event. -/
theorem satnEdges : Obligations.SatnEdges := by
  refine fun s => ⟨fun h => ⟨?_, ?_, ?_⟩, fun h => ⟨?_, _, rfl, ?_, fun n => ?_⟩⟩
  · simp [exec, execSatnAssertion, h]
  · simp [dueIdentify]
  · simp [exec, execSatnDeassertion, h]
  · simp [exec, execSatnAssertion, h]
  · simp [h]
  · rw [if_pos h]
    simp [deassertStation_eq]

end Sys2Proof.Machine
end

section
/-! PROOFS. The flags that follow routing and enable (R155, R168, R174), and the operations that leave routing, enable and the
identify interval: the ends of work, the memory steps, the start of a bus reset. -/

namespace Sys2Proof.Machine

/-- An entry of a vector after one of its entries is replaced, by indices. -/
theorem getElem_set_fin {α : Type} {k : Nat} (v : Vector α k) (i j : Fin k) (a : α) :
    (v.set i a)[j] = if i = j then a else v[j] := by
  rw [Fin.getElem_fin, Vector.getElem_set]
  simp only [Fin.val_inj, Fin.getElem_fin]

/-! ### What the law reads -/

/-- The flags of a station that its enable and routing allow (R155). -/
def StationAttention.allowed (a : StationAttention) (enabled : Bool) (route : Routing) : Prop :=
  (a.pending = true → enabled = true ∧ route.toLine.isSome = true) ∧
  (a.fresh = true → enabled = true ∧ route.isChannel = true) ∧
  (a.previous = true → enabled = true)

theorem flagsFollowRouting_iff (s : State) : FlagsFollowRouting s ↔
    (∀ n : Station, (s.attn.stations[n]).allowed (s.profiles[n]).enabled (s.alerts.config[n.source]).routing) ∧
    (s.alerts.haltedPending = true → (s.lineOf Source.halted).isSome = true) ∧
    ∀ x : Source, x.station = none → (s.alerts.config[x]).routing.isChannel = false := Iff.rfl

/-- The part of a state the law of the flags is about, with the identify interval. -/
structure FlagView where
  profiles : Vector Profile 15
  config : Vector SourceConfig 19
  interval : Byte
  stations : Vector StationAttention 15
  haltedPending : Bool

def State.flagView (s : State) : FlagView :=
  { profiles := s.profiles, config := s.alerts.config, interval := s.attn.interval, stations := s.attn.stations
    haltedPending := s.alerts.haltedPending }

/-- From the first view to the second profiles, routing and interval stay, and the flags stay allowed. -/
structure FlagView.Keeps (v w : FlagView) : Prop where
  profiles : w.profiles = v.profiles
  config : w.config = v.config
  interval : w.interval = v.interval
  stations : ∀ n : Station, (v.stations[n]).allowed (v.profiles[n]).enabled (v.config[n.source]).routing →
    (w.stations[n]).allowed (v.profiles[n]).enabled (v.config[n.source]).routing
  halted : w.haltedPending = true → v.haltedPending = true ∨ (v.config[Source.halted]).routing.toLine.isSome = true

/-- A step of the part that started in `s₀` and has come to `s` has left profiles, routing and interval, and no flag stands that
is not allowed or stood so before. -/
def KeepsFlags (s₀ s : State) : Prop := s₀.flagView.Keeps s.flagView

theorem keepsFlags_refl (s : State) : KeepsFlags s s := ⟨rfl, rfl, rfl, fun _ h => h, .inl⟩

/-- The relation reads nothing but the two views. -/
theorem KeepsFlags.congr {s₀ s t : State} (h : KeepsFlags s₀ s) (hv : t.flagView = s.flagView) : KeepsFlags s₀ t := by
  unfold KeepsFlags
  rw [hv]
  exact h

theorem KeepsFlags.law {s t : State} (h : KeepsFlags s t) (hs : FlagsFollowRouting s) : FlagsFollowRouting t := by
  obtain ⟨hstations, hhalted, hinternal⟩ := hs
  obtain ⟨hp, hc, -, hkeep, hrise⟩ := h
  have hp : t.profiles = s.profiles := hp
  have hc : t.alerts.config = s.alerts.config := hc
  rw [flagsFollowRouting_iff]
  unfold State.lineOf
  rw [hp, hc]
  exact ⟨fun n => hkeep n (hstations n), fun h => (hrise h).elim hhalted id, hinternal⟩

section
variable {s₀ s : State}

/-! ### Run state and faults (R93, R98, R174, R185) -/

/-- An entry into HALTED sets the flag of source 19 only while that source is routed to a line. -/
theorem toRun_keepsFlags (r : RunState) (h : KeepsFlags s₀ s) : KeepsFlags s₀ (s.toRun r) := by
  obtain ⟨hp, hc, hi, hstations, hhalted⟩ := h
  have hconfig : s.alerts.config = s₀.alerts.config := hc
  refine ⟨hp, hc, hi, hstations, fun hset => ?_⟩
  have hset : (s.alerts.haltedPending ||
      (r == .halted && s.engine.run != .halted && (s.lineOf Source.halted).isSome)) = true := hset
  obtain hset | hset := (Bool.or_eq_true _ _).mp hset
  · exact hhalted hset
  · have hline := ((Bool.and_eq_true _ _).mp hset).2
    rw [State.lineOf, hconfig] at hline
    exact .inr hline

theorem workEnded_keepsFlags (h : KeepsFlags s₀ s) : KeepsFlags s₀ (workEnded s) := by
  rw [workEnded_eq]
  exact toRun_keepsFlags _ h

theorem endBusWork_keepsFlags (h : KeepsFlags s₀ s) : KeepsFlags s₀ (endBusWork s) := workEnded_keepsFlags (s := s.setBus .idle) h

theorem haltTrigger_keepsFlags (h : KeepsFlags s₀ s) : KeepsFlags s₀ (haltTrigger s) := by
  rw [haltTrigger_eq]
  exact toRun_keepsFlags _ h

theorem writeFault_keepsFlags (k : FaultKind) (n : Option Station) (h : KeepsFlags s₀ s) : KeepsFlags s₀ (writeFault k n s) := by
  rw [writeFault_eq]
  exact h

theorem writeCycleFault_keepsFlags (o : CycleOutcome) (n : Option Station) (h : KeepsFlags s₀ s) :
    KeepsFlags s₀ (writeCycleFault o n s) := by
  rw [writeCycleFault_eq]
  exact h

/-! ### Requests (R50 to R54) -/

theorem retire_keepsFlags (r : Request) (st : Status) (d : Word) (h : KeepsFlags s₀ s) : KeepsFlags s₀ (retire r st d s) := by
  unfold retire
  split
  · split <;> exact h
  · exact haltTrigger_keepsFlags h

theorem requestOutcome_keepsFlags (t : Tag) (o : CycleOutcome) (h : KeepsFlags s₀ s) :
    KeepsFlags s₀ (requestOutcome t o s) := by
  unfold requestOutcome
  split
  · exact h
  · cases o with
    | ack | noResponse | parity | protocol | busHang | cut => exact retire_keepsFlags _ _ _ h
    | defer =>
      dsimp only
      split
      · unfold deferRequest
        dsimp only
        split
        · exact retire_keepsFlags _ _ _ h
        · split <;> exact h
      · exact h
    | answer | identifyParity => exact h

/-! ### A station's flags lowered (R134, R150, R164, R178) -/

/-- Flags that do not rise stay allowed. -/
theorem StationAttention.allowed_of_le {a b : StationAttention} {enabled : Bool} {route : Routing} (h : a.allowed enabled route)
    (hpending : b.pending = true → a.pending = true) (hfresh : b.fresh = true → a.fresh = true)
    (hprevious : b.previous = true → a.previous = true) : b.allowed enabled route :=
  ⟨fun hb => h.1 (hpending hb), fun hb => h.2.1 (hfresh hb), fun hb => h.2.2 (hprevious hb)⟩

/-- A change of the stations under which each allowed one stays allowed. -/
theorem KeepsFlags.withStations {v : Vector StationAttention 15} (h : KeepsFlags s₀ s)
    (hv : ∀ n : Station, (s.attn.stations[n]).allowed (s.profiles[n]).enabled (s.alerts.config[n.source]).routing →
      (v[n]).allowed (s.profiles[n]).enabled (s.alerts.config[n.source]).routing) :
    KeepsFlags s₀ { s with attn := { s.attn with stations := v } } := by
  obtain ⟨hp, hc, hi, hstations, hhalted⟩ := h
  have hprofiles : s.profiles = s₀.profiles := hp
  have hconfig : s.alerts.config = s₀.alerts.config := hc
  rw [hprofiles, hconfig] at hv
  exact ⟨hp, hc, hi, fun n hn => hv n (hstations n hn), hhalted⟩

theorem setStation_keepsFlags (n : Station) {a : StationAttention} (h : KeepsFlags s₀ s)
    (hpending : a.pending = true → (s.attn.stations[n]).pending = true)
    (hfresh : a.fresh = true → (s.attn.stations[n]).fresh = true)
    (hprevious : a.previous = true → (s.attn.stations[n]).previous = true) : KeepsFlags s₀ (s.setStation n a) := by
  refine h.withStations fun m hm => ?_
  rw [getElem_set_fin]
  split
  · next hnm =>
    subst hnm
    exact StationAttention.allowed_of_le hm hpending hfresh hprevious
  · exact hm

theorem consumeFresh_keepsFlags (k : Control) (h : KeepsFlags s₀ s) : KeepsFlags s₀ (consumeFresh k s) := by
  unfold consumeFresh
  split
  · exact setStation_keepsFlags k.station h id nofun id
  · exact h

/-! ### The ends of a channel's word (R134 to R143) -/

theorem enterFaulted_keepsFlags (c : Channel) (x : Reason) (h : KeepsFlags s₀ s) : KeepsFlags s₀ (enterFaulted c x s) :=
  haltTrigger_keepsFlags (s := s.setChannel c _) h

theorem resumeOrStop_keepsFlags (c : Channel) (lost : Bool) (h : KeepsFlags s₀ s) : KeepsFlags s₀ (resumeOrStop c lost s) := by
  unfold resumeOrStop
  dsimp only
  split
  · exact h
  · split
    · exact enterFaulted_keepsFlags c _ h
    · exact h

theorem handleChannelDefer_keepsFlags (c : Channel) (elapsed : Nat) (lost : Bool) (h : KeepsFlags s₀ s) :
    KeepsFlags s₀ (handleChannelDefer c elapsed lost s) := by
  unfold handleChannelDefer
  dsimp only
  split
  · exact h
  · split
    · exact enterFaulted_keepsFlags (s := s.setChannel c _) c _ h
    · split
      · exact resumeOrStop_keepsFlags (s := s.setChannel c _) c _ h
      · exact resumeOrStop_keepsFlags (s := (s.setChannel c _).setBackoff _ _) c _ h

theorem releaseBus_keepsFlags (c : Channel) (h : KeepsFlags s₀ s) : KeepsFlags s₀ (releaseBus c s) := by
  unfold releaseBus
  split
  · exact endBusWork_keepsFlags h
  · exact h

theorem leaveMoving_keepsFlags (c : Channel) (e : WordEnd) (h : KeepsFlags s₀ s) : KeepsFlags s₀ (leaveMoving c e s) := by
  cases e with
  | fault x => exact enterFaulted_keepsFlags c x (releaseBus_keepsFlags c h)
  | defer elapsed => exact handleChannelDefer_keepsFlags c elapsed _ (releaseBus_keepsFlags c h)

theorem startRollback_keepsFlags (c : Channel) (e : WordEnd) (h : KeepsFlags s₀ s) : KeepsFlags s₀ (startRollback c e s) := by
  unfold startRollback
  dsimp only
  split
  · exact leaveMoving_keepsFlags c e h
  · exact h

theorem finishCcb_keepsFlags (c : Channel) (lost : Bool) (h : KeepsFlags s₀ s) : KeepsFlags s₀ (finishCcb c lost s) := by
  unfold finishCcb
  dsimp only
  split
  · split
    · exact enterFaulted_keepsFlags (s := s.setChannel c _) c _ h
    · split
      · exact enterFaulted_keepsFlags (s := (s.setChannel c _).setChannel c _) c _ h
      · exact h
  · exact h

theorem channelAck_keepsFlags (c : Channel) (h : KeepsFlags s₀ s) : KeepsFlags s₀ (channelAck c s) := by
  unfold channelAck
  dsimp only
  split
  · exact h
  · next k _ =>
    have hreleased := releaseBus_keepsFlags c
      (consumeFresh_keepsFlags (s := s.setChannel c { s.channels[c] with defers := 0 }) k h)
    split
    · exact finishCcb_keepsFlags c _ hreleased
    · exact resumeOrStop_keepsFlags c _ hreleased

theorem channelOutcome_keepsFlags (c : Channel) (o : CycleOutcome) (h : KeepsFlags s₀ s) :
    KeepsFlags s₀ (channelOutcome c o s) := by
  cases o with
  | ack data =>
    simp only [channelOutcome]
    split
    · exact h
    · split
      · exact channelAck_keepsFlags c h
      · exact h
  | defer | noResponse | protocol | parity | busHang | cut => exact startRollback_keepsFlags c _ h
  | answer | identifyParity => exact h

/-! ### An IDENTIFY's outcome (R155, R156) -/

/-- An answer bit sets a flag only where enable and routing allow it. -/
theorem interpretBit_allowed (satn enabled : Bool) (route : Routing) (sense : Sense) (b : Bool) {a : StationAttention}
    (h : a.allowed enabled route) : (interpretBit satn enabled route sense b a).allowed enabled route := by
  obtain ⟨hpending, hfresh, hprevious⟩ := h
  rw [interpretBit_eq]
  refine ⟨fun hset => ?_, fun hset => ?_, fun hset => ?_⟩
  · by_cases hline : (enabled && route.toLine.isSome) = true
    · exact (Bool.and_eq_true _ _).mp hline
    · exact hpending ((if_neg hline).symm.trans hset)
  · by_cases hchannel : (enabled && satn && route.isChannel) = true
    · obtain ⟨⟨he, -⟩, hr⟩ := (Bool.and_eq_true _ _).mp hchannel |>.imp (Bool.and_eq_true _ _).mp id
      exact ⟨he, hr⟩
    · exact hfresh ((if_neg hchannel).symm.trans hset)
  · by_cases hsatn : (enabled && satn) = true
    · exact ((Bool.and_eq_true _ _).mp hsatn).1
    · exact hprevious ((if_neg hsatn).symm.trans hset)

theorem takeAnswer_keepsFlags (a : Word) (h : KeepsFlags s₀ s) : KeepsFlags s₀ (takeAnswer a s) := by
  have hstations := h.withStations (v := (takeAnswer a s).attn.stations) fun n hn => by
    rw [takeAnswer_station]
    exact interpretBit_allowed _ _ _ _ _ hn
  rw [takeAnswer_moves]
  exact hstations

theorem takeIdentifyParity_keepsFlags (h : KeepsFlags s₀ s) : KeepsFlags s₀ (takeIdentifyParity s) :=
  writeFault_keepsFlags (s := startIntervalTimer s) _ _ h

theorem attentionOutcome_keepsFlags (o : CycleOutcome) (h : KeepsFlags s₀ s) : KeepsFlags s₀ (attentionOutcome o s) := by
  cases o with
  | answer a => exact takeAnswer_keepsFlags a h
  | identifyParity => exact takeIdentifyParity_keepsFlags h
  | ack | defer | noResponse | protocol | parity | busHang | cut => exact h

theorem identifyMeetsReset_keepsFlags (o : CycleOutcome) (h : KeepsFlags s₀ s) : KeepsFlags s₀ (identifyMeetsReset o s) := by
  cases o with
  | answer a =>
    simp only [identifyMeetsReset]
    split
    · exact takeAnswer_keepsFlags a h
    · exact h
  | identifyParity => exact takeIdentifyParity_keepsFlags h
  | ack | defer | noResponse | protocol | parity | busHang | cut => exact h

/-! ### The start of a bus reset (R104, R164) -/

theorem wordMeetsReset_keepsFlags (c : Channel) (n : Option Station) (h : KeepsFlags s₀ s) :
    KeepsFlags s₀ (wordMeetsReset c n s) := by
  unfold wordMeetsReset
  split
  case h_1 | h_2 | h_3 | h_4 | h_5 | h_6 | h_7 | h_8 => exact channelOutcome_keepsFlags c .cut h
  case h_10 | h_11 => exact writeFault_keepsFlags _ _ h
  all_goals exact h

theorem ownerMeetsReset_keepsFlags (w : BusWork) (h : KeepsFlags s₀ s) : KeepsFlags s₀ (ownerMeetsReset w s) := by
  unfold ownerMeetsReset
  split
  · exact writeCycleFault_keepsFlags _ _ (requestOutcome_keepsFlags _ _ h)
  · exact writeCycleFault_keepsFlags _ _ (channelOutcome_keepsFlags _ _ h)
  · exact wordMeetsReset_keepsFlags _ _ h
  · exact identifyMeetsReset_keepsFlags _ h
  · exact h
  · exact h

theorem channelMeetsReset_keepsFlags (c : Channel) (h : KeepsFlags s₀ s) : KeepsFlags s₀ (channelMeetsReset c s) := by
  unfold channelMeetsReset
  split
  case h_1 | h_2 => exact enterFaulted_keepsFlags c _ h
  all_goals exact h

theorem channelsMeetReset_keepsFlags (h : KeepsFlags s₀ s) : KeepsFlags s₀ (channelsMeetReset s) :=
  channelMeetsReset_keepsFlags 3 (channelMeetsReset_keepsFlags 2 (channelMeetsReset_keepsFlags 1
    (channelMeetsReset_keepsFlags 0 h)))

/-- A station with no flag set is allowed under every enable and routing. -/
theorem allowed_reset (enabled : Bool) (route : Routing) : StationAttention.reset.allowed enabled route := ⟨nofun, nofun, nofun⟩

theorem clearAttention_keepsFlags (h : KeepsFlags s₀ s) : KeepsFlags s₀ (clearAttention s) :=
  h.withStations (v := Vector.replicate 15 StationAttention.reset) fun n _ => by
    rw [Fin.getElem_fin, Vector.getElem_replicate]
    exact allowed_reset _ _

theorem startBusReset_keepsFlags (h : KeepsFlags s₀ s) : KeepsFlags s₀ (startBusReset s) := by
  unfold startBusReset
  dsimp only
  refine clearAttention_keepsFlags (channelsMeetReset_keepsFlags (s := requestsMeetReset _) ?_)
  split
  · next w _ => exact ownerMeetsReset_keepsFlags w (workEnded_keepsFlags (s := s.setBus _) h)
  · exact h
  · exact h

/-! ### Memory accesses (R113, R126 to R137) -/

theorem rangeCheck_keepsFlags (c : Channel) (k : Control) (h : KeepsFlags s₀ s) : KeepsFlags s₀ (rangeCheck c k s) := by
  unfold rangeCheck
  dsimp only
  split
  · exact startRollback_keepsFlags c _ h
  · split
    · exact startRollback_keepsFlags c _ h
    · exact h

theorem finishRollback_keepsFlags (c : Channel) (e : WordEnd) (h : KeepsFlags s₀ s) : KeepsFlags s₀ (finishRollback c e s) := by
  unfold finishRollback
  dsimp only
  split
  · exact startBusReset_keepsFlags (writeFault_keepsFlags _ _ (leaveMoving_keepsFlags c e h))
  · exact leaveMoving_keepsFlags c e h

theorem wordAccess_keepsFlags (c : Channel) (k : Control) (x : WordStep) (h : KeepsFlags s₀ s) :
    KeepsFlags s₀ (wordAccess c k x s) := by
  cases x with
  | countRead | countWrite | outRead | ask | inCycle => exact h
  | zeroAddrRead => exact startRollback_keepsFlags (s := s.setChannel c _) c _ h
  | addrRead =>
    simp only [wordAccess]
    split
    · exact startRollback_keepsFlags (s := s.setChannel c _) c _ h
    · split
      · exact rangeCheck_keepsFlags (s := s.setChannel c _) c k h
      · exact h
  | addrWrite => exact rangeCheck_keepsFlags (s := s.setMem _) c k h
  | inWrite data => exact channelAck_keepsFlags (s := s.setMem _) c h
  | rollCount e =>
    simp only [wordAccess]
    split
    · exact finishRollback_keepsFlags (s := s.setMem _) c e h
    · exact h
  | rollAddr e => exact finishRollback_keepsFlags (s := s.setMem _) c e h

theorem loadAccess_keepsFlags (c : Channel) (l : LoadStep) (h : KeepsFlags s₀ s) : KeepsFlags s₀ (loadAccess c l s) := by
  cases l with
  | control | count => exact h
  | link control count =>
    simp only [loadAccess, finishLoad]
    split
    · exact enterFaulted_keepsFlags c _ h
    · exact resumeOrStop_keepsFlags (s := s.setChannel c _) c false h

theorem channelAccess_keepsFlags (c : Channel) (h : KeepsFlags s₀ s) : KeepsFlags s₀ (channelAccess c s) := by
  unfold channelAccess
  dsimp only
  split
  · split
    · exact loadAccess_keepsFlags (s := servedChannel c s) c _ h
    · split
      · exact wordAccess_keepsFlags (s := servedChannel c s) c _ _ h
      · exact h
    all_goals exact h
  · exact h

theorem serveSlots_keepsFlags (inStep : ChState → Bool) (x : Service) (h : KeepsFlags s₀ s) :
    KeepsFlags s₀ (serveSlots inStep x.channel x.slots s) :=
  serveSlots_keeps (P := KeepsFlags s₀) inStep x.channel x.slots (fun c _ => channelAccess_keepsFlags c) h

theorem windowTurn_keepsFlags (running : Bool) (h : KeepsFlags s₀ s) : KeepsFlags s₀ (windowTurn running s) := by
  unfold windowTurn
  split
  · exact channelAccess_keepsFlags _ h
  · exact h

end

end Sys2Proof.Machine
end

section
/-! PROOFS. Every command and every period keeps the law of the flags, and the identify interval stays over a bus reset (R153, R155,
R168, R174). -/

namespace Sys2Proof.Machine

/-! ### Profiles and sources (R32, R163, R171) -/

/-- Flags allowed to an enabled station are allowed wherever the new enable includes the old. -/
theorem StationAttention.allowed_of_enabled {a : StationAttention} {enabled enabled' : Bool} {route : Routing}
    (h : a.allowed enabled route) (he : enabled = true → enabled' = true) : a.allowed enabled' route :=
  ⟨fun hp => (h.1 hp).imp he id, fun hf => (h.2.1 hf).imp he id, fun hp => he (h.2.2 hp)⟩

/-- A station that the staged profile disables loses its flags; one that it leaves enabled keeps them. -/
theorem applyProfile_flagsFollowRouting {s : State} (hs : FlagsFollowRouting s) : FlagsFollowRouting (applyProfile s) := by
  obtain ⟨hstations, hrest⟩ := hs
  unfold applyProfile
  split
  · exact ⟨hstations, hrest⟩
  · next n _ =>
    split
    · dsimp only
      split
      · refine ⟨fun m => ?_, hrest⟩
        change StationAttention.allowed ((s.attn.stations.set n _)[m]) ((s.profiles.set n s.port.prof)[m]).enabled _
        rw [getElem_set_fin, getElem_set_fin]
        split
        · exact ⟨nofun, nofun, nofun⟩
        · exact hstations m
      · next hkept =>
        refine ⟨fun m => ?_, hrest⟩
        change StationAttention.allowed (s.attn.stations[m]) ((s.profiles.set n s.port.prof)[m]).enabled _
        rw [getElem_set_fin]
        split
        · next hnm =>
          subst hnm
          have hstill : (s.profiles[n]).enabled = true → s.port.prof.enabled = true := fun he => by
            rw [he] at hkept
            simpa using hkept
          exact StationAttention.allowed_of_enabled (hstations n) hstill
        · exact hstations m
    · exact ⟨hstations, hrest⟩

theorem station_eq_some_iff {x : Source} {n : Station} : x.station = some n ↔ n.source = x := by
  unfold Source.station Station.source
  constructor
  · intro h
    split at h
    · cases h
      rfl
    · cases h
  · rintro rfl
    exact dif_pos n.isLt

/-- No flag that depends on the source's routing stands. -/
def SourceCleared (x : Source) (s : State) : Prop :=
  (∀ n : Station, n.source = x → (s.attn.stations[n]).pending = false ∧ (s.attn.stations[n]).fresh = false) ∧
  (Source.halted = x → s.alerts.haltedPending = false)

/-- A routing change clears the flags of its own source (R163, R171). -/
theorem clearRouted_cleared (x : Source) (s : State) : SourceCleared x (clearRouted x s) := by
  unfold clearRouted
  split
  · next m hm =>
    refine ⟨fun n hn => ?_, ?_⟩
    · obtain rfl : m = n := Option.some.inj (hm.symm.trans (station_eq_some_iff.mpr hn))
      simp
    · rintro rfl
      cases hm
  · next hx =>
    have hno (n : Station) : ¬ n.source = x := fun h => nomatch hx.symm.trans (station_eq_some_iff.mpr h)
    split
    · exact ⟨fun n hn => absurd hn (hno n), fun _ => rfl⟩
    · next hne => exact ⟨fun n hn => absurd hn (hno n), fun h => absurd h.symm hne⟩

/-- Sources 16 to 19 are given no channel (R170 step 2). -/
theorem stagedRouting_internal {s : State} {x : Source} {route : Routing} (h : stagedRouting s x = some route)
    (hx : x.station = none) : route.isChannel = false := by
  unfold stagedRouting at h
  rw [hx] at h
  split at h
  · cases h
  · next hcode =>
    cases route with
    | channel c => exact absurd h (hcode c)
    | masked | line => rfl

/-- A source takes another routing where no flag depends on the old one. -/
theorem reroute_flagsFollowRouting {s t : State} {x : Source} {y : SourceConfig} (hs : FlagsFollowRouting s)
    (hprofiles : t.profiles = s.profiles) (hconfig : t.alerts.config = s.alerts.config.set x y)
    (hstations : t.attn.stations = s.attn.stations) (hhalted : t.alerts.haltedPending = s.alerts.haltedPending)
    (hinternal : x.station = none → y.routing.isChannel = false)
    (hcleared : (s.alerts.config[x]).routing = y.routing ∨ SourceCleared x s) : FlagsFollowRouting t := by
  obtain ⟨hflags, hhalt, hno⟩ := hs
  rw [flagsFollowRouting_iff]
  unfold State.lineOf
  rw [hprofiles, hconfig, hstations, hhalted]
  refine ⟨fun n => ?_, fun hset => ?_, fun z hz => ?_⟩
  · rw [getElem_set_fin]
    split
    · next hx =>
      subst hx
      obtain hsame | ⟨hclear, -⟩ := hcleared
      · rw [← hsame]
        exact hflags n
      · obtain ⟨hp, hf⟩ := hclear n rfl
        exact ⟨fun h => (nomatch hp.symm.trans h), fun h => (nomatch hf.symm.trans h), (hflags n).2.2⟩
    · exact hflags n
  · rw [getElem_set_fin]
    split
    · next hx =>
      subst hx
      obtain hsame | ⟨-, hclear⟩ := hcleared
      · rw [← hsame]
        exact hhalt hset
      · exact nomatch (hclear rfl).symm.trans hset
    · exact hhalt hset
  · rw [getElem_set_fin]
    split
    · next hx => exact hinternal (hx ▸ hz)
    · exact hno z hz

section
variable {s₀ s : State}

theorem clearRouted_keepsFlags (x : Source) (h : KeepsFlags s₀ s) : KeepsFlags s₀ (clearRouted x s) := by
  unfold clearRouted
  split
  · exact setStation_keepsFlags _ h nofun nofun id
  · split
    · obtain ⟨hp, hc, hi, hstations, -⟩ := h
      exact ⟨hp, hc, hi, hstations, nofun⟩
    · exact h

/-- A sense is none of what the law reads. -/
theorem applySense_flagView (x : Source) (s : State) : (applySense x s).flagView = s.flagView := by
  unfold applySense
  split <;> rfl

/-- The staged routing comes with the flags of the old one cleared (R171). -/
theorem applySource_flagsFollowRouting (hs : FlagsFollowRouting s) : FlagsFollowRouting (applySource s) := by
  unfold applySource
  split
  · exact hs
  · next x _ =>
    split
    · exact hs
    · next route hroute =>
      split
      · exact hs
      · dsimp only
        let s1 := if (s.alerts.config[x]).routing = route then s else clearRouted x s
        have hkeeps : KeepsFlags s s1 := by
          unfold s1
          split
          · exact keepsFlags_refl s
          · exact clearRouted_keepsFlags x (keepsFlags_refl s)
        have hconfig : s1.alerts.config = s.alerts.config := hkeeps.config
        have hcleared : (s1.alerts.config[x]).routing = route ∨ SourceCleared x s1 := by
          rw [hconfig]
          unfold s1
          split
          · next hsame => exact .inl hsame
          · exact .inr (clearRouted_cleared x s)
        have hview := applySense_flagView x s1
        exact reroute_flagsFollowRouting (hkeeps.law hs) (congrArg FlagView.profiles hview)
          (congrArg (fun v : FlagView => v.config.set x { routing := route, priority := s.port.src.priority }) hview)
          (congrArg FlagView.stations hview) (congrArg FlagView.haltedPending hview) (stagedRouting_internal hroute) hcleared

theorem takePending_keepsFlags (x : Source) (h : KeepsFlags s₀ s) : KeepsFlags s₀ (takePending x s) := by
  unfold takePending
  split
  · exact h
  · split
    · exact setStation_keepsFlags _ h nofun id id
    · obtain ⟨hp, hc, hi, hstations, -⟩ := h
      exact ⟨hp, hc, hi, hstations, nofun⟩

theorem takeSource_keepsFlags (h : KeepsFlags s₀ s) : KeepsFlags s₀ (takeSource s) := by
  unfold takeSource
  split
  · exact h
  · split
    · exact h
    · exact takePending_keepsFlags _ h

/-! ### Bus work begun and gone on (R86 to R92) -/

theorem beginWordCycle_keepsFlags (c : Channel) (h : KeepsFlags s₀ s) : KeepsFlags s₀ (beginWordCycle c s) := by
  unfold beginWordCycle
  split
  · split <;> exact h
  · exact h

theorem onCycle_keepsFlags (f : BusWork → Cycle → Cycle) (h : KeepsFlags s₀ s) : KeepsFlags s₀ (onCycle f s) := by
  unfold onCycle
  split
  · split <;> exact h
  · exact h
  · exact h

theorem grantWord_keepsFlags (c : Channel) (h : KeepsFlags s₀ s) : KeepsFlags s₀ (grantWord c s) := by
  unfold grantWord
  dsimp only
  split <;> exact h

theorem grantRequest_keepsFlags (r : Request) (h : KeepsFlags s₀ s) : KeepsFlags s₀ (grantRequest r s) := by
  have hactive : KeepsFlags s₀ (activate r { s with engine := { s.engine with share := 0 } }) := by
    unfold activate
    dsimp only
    split <;> exact h
  unfold grantRequest
  dsimp only
  split
  · exact retire_keepsFlags _ _ _ hactive
  · split <;> exact hactive

theorem grantShared_keepsFlags (h : KeepsFlags s₀ s) : KeepsFlags s₀ (grantShared s) := by
  unfold grantShared
  split
  · exact grantRequest_keepsFlags _ h
  · exact grantWord_keepsFlags _ h
  · split
    · exact grantWord_keepsFlags (s := { s with engine := { s.engine with share := s.engine.share + 1 } }) _ h
    · exact grantRequest_keepsFlags _ h
  · exact h

theorem deliver_keepsFlags (w : BusWork) (o : CycleOutcome) (h : KeepsFlags s₀ s) : KeepsFlags s₀ (deliver w o s) := by
  unfold deliver
  split
  · next t _ =>
    have hout := writeCycleFault_keepsFlags o w.station (requestOutcome_keepsFlags t o (endBusWork_keepsFlags h))
    unfold resetAfterHang
    split
    · exact startBusReset_keepsFlags hout
    · exact hout
  · exact attentionOutcome_keepsFlags o (endBusWork_keepsFlags h)
  · next c _ =>
    have hout := channelOutcome_keepsFlags (s := s.setBus (.cycle { w with cycle := none })) c o h
    dsimp only
    split
    · exact writeFault_keepsFlags _ _ hout
    · exact hout

/-- A deassertion of SATN# sets no flag (R150). -/
theorem satnDeassertion_keepsFlags (h : KeepsFlags s₀ s) :
    KeepsFlags s₀ { s with
      attn := { s.attn with
        satn := false, mark := false, timer := .stopped, emptyAnswers := 0, suspended := false
        stations := Vector.ofFn fun (n : Station) => deassertStation s.alerts.sense[n] s.attn.stations[n] } } :=
  h.withStations (v := Vector.ofFn fun (n : Station) => deassertStation s.alerts.sense[n] s.attn.stations[n]) fun n hn => by
    rw [Fin.getElem_fin, Vector.getElem_ofFn, deassertStation_eq]
    refine StationAttention.allowed_of_le hn (fun hset => ?_) nofun nofun
    by_cases hl : s.alerts.sense[n] = .level
    · exact nomatch (if_pos hl).symm.trans hset
    · exact (if_neg hl).symm.trans hset

theorem tick_keepsFlags (h : KeepsFlags s₀ s) : KeepsFlags s₀ (tick s) := by
  refine h.congr ?_
  rw [tick_frame]
  rfl

/-! ### Commands and window writes -/

theorem readMdata_keepsFlags (running : Bool) (h : KeepsFlags s₀ s) : KeepsFlags s₀ (readMdata running s) := by
  unfold readMdata
  split
  · exact h
  · exact windowTurn_keepsFlags running h

theorem writeMdata_keepsFlags (data : Word) (running : Bool) (h : KeepsFlags s₀ s) : KeepsFlags s₀ (writeMdata data running s) := by
  unfold writeMdata
  split
  · exact h
  · exact windowTurn_keepsFlags running h

theorem stopEngine_keepsFlags (h : KeepsFlags s₀ s) : KeepsFlags s₀ (stopEngine s) := by
  cases hr : s.engine.run with
  | running =>
    rw [stopEngine_working (.inl hr)]
    exact toRun_keepsFlags _ h
  | stepping =>
    rw [stopEngine_working (.inr hr)]
    exact toRun_keepsFlags _ h
  | stopping =>
    rw [stopEngine_stopped (.inl hr)]
    exact toRun_keepsFlags _ h
  | halted =>
    rw [stopEngine_stopped (.inr hr)]
    exact toRun_keepsFlags _ h

theorem setResult_flagView (s : State) (r : Result) : (s.setResult r).flagView = s.flagView := rfl

theorem busResetCommand_keepsFlags (h : KeepsFlags s₀ s) : KeepsFlags s₀ (busResetCommand s) := by
  unfold busResetCommand
  split
  · exact h
  · exact (startBusReset_keepsFlags h).congr (setResult_flagView _ _)

/-- A reset masks every source and clears every flag (R168, R183). -/
theorem flagsFollowRouting_of_reset (hstations : s.attn.stations = Attention.reset.stations) (halerts : s.alerts = Alerts.reset) :
    FlagsFollowRouting s := by
  rw [flagsFollowRouting_iff, hstations, halerts]
  refine ⟨fun n => ?_, nofun, fun x _ => ?_⟩
  · simp only [Attention.reset, Fin.getElem_fin, Vector.getElem_replicate]
    exact allowed_reset _ _
  · simp only [Alerts.reset, Fin.getElem_fin, Vector.getElem_replicate]
    rfl

/-- Of the commands PROF_APPLY, SRC_APPLY and SOFT_RESET change enable or routing, and they clear the flags with it. -/
theorem performCommand_flagsFollowRouting (c : Instr) (hs : FlagsFollowRouting s) : FlagsFollowRouting (performCommand c s) := by
  have here := keepsFlags_refl s
  cases c with
  | profApply => exact applyProfile_flagsFollowRouting hs
  | srcApply => exact applySource_flagsFollowRouting hs
  | softReset => exact flagsFollowRouting_of_reset (s := softReset s) rfl rfl
  | busReset => exact (busResetCommand_keepsFlags here).law hs
  | stop => exact (stopEngine_keepsFlags here).law hs
  | take => exact (takeSource_keepsFlags here).law hs
  | step =>
    simp only [performCommand, stepEngine]
    split <;> exact hs
  | post | pop =>
    simp only [performCommand, postRequest, popCompletion]
    (repeat' split) <;> exact hs
  | profLoad | srcLoad | endService =>
    simp only [performCommand, loadProfile, loadSource, endSource]
    (repeat' split) <;> exact hs
  | arm | chStop | chAck =>
    simp only [performCommand, armChannel, stopChannel, ackChannel]
    (repeat' split) <;> exact hs
  | run | flush | clearFault => exact hs
  | unknownCmd | mdataRead | mdataWrite | configWrite | attnCfgWrite | windowWrite | resetAssert | resetDeassert | clearSweepEnd
  | satnAssertion | satnDeassertion | dispatchChoice | responseWindowExpiry | holdLimitReached | cycleEnd | busResetIntervalEnd
  | dividerTakesEffect | identifyIntervalLapse | settlePeriodsBegin | backoffExpiry | ccbLoad | channelCountStep
  | channelAddressStep | channelDataStep | channelRollback | inDataWrite | stationResponse | byteTransfer | senseSample
  | answerCheckSample => exact hs

theorem windowCommand_flagsFollowRouting {body : State → State} (hs : FlagsFollowRouting s) (hb : FlagsFollowRouting (body s)) :
    FlagsFollowRouting (windowCommand body s) := by
  unfold windowCommand
  split
  · exact hs
  · exact hb

theorem unlessInit_flagsFollowRouting {write : State → State} (hs : FlagsFollowRouting s) (hw : FlagsFollowRouting (write s)) :
    FlagsFollowRouting (unlessInit write s) := by
  unfold unlessInit
  split
  · exact hs
  · exact hw

theorem writeCmd_flagsFollowRouting (w : Word) (hs : FlagsFollowRouting s) : FlagsFollowRouting (writeCmd w s) := by
  unfold writeCmd
  split
  · exact performCommand_flagsFollowRouting _ hs
  · exact hs

theorem writeLocation_flagsFollowRouting (location : BitVec 5) (w : Word) (hs : FlagsFollowRouting s) :
    FlagsFollowRouting (writeLocation location w s) := by
  unfold writeLocation
  split
  · exact windowCommand_flagsFollowRouting hs (writeCmd_flagsFollowRouting w hs)
  · exact (writeMdata_keepsFlags w false (keepsFlags_refl s)).law hs
  · exact unlessInit_flagsFollowRouting hs hs
  · exact unlessInit_flagsFollowRouting hs hs
  · refine unlessInit_flagsFollowRouting hs ?_
    rw [storeLocation_frame]
    exact hs

/-! ### The events of the interval and of RESET# -/

theorem beginSettle_flagView (s : State) : (beginSettle s).flagView = s.flagView := by
  unfold beginSettle
  (repeat' split) <;> rfl

theorem endInterval_flagView (s : State) : (endInterval s).flagView = s.flagView := by
  unfold endInterval
  split <;> rfl

theorem endSweep_flagView (s : State) : (endSweep s).flagView = s.flagView := by
  unfold endSweep
  split
  · exact endInterval_flagView s
  · rfl
  · rfl

theorem deassertReset_flagView (s : State) : (deassertReset s).flagView = s.flagView := by
  unfold deassertReset
  split <;> rfl

theorem assertReset_flagsFollowRouting (held : Nat) (hs : FlagsFollowRouting s) : FlagsFollowRouting (assertReset held s) := by
  have htake : FlagsFollowRouting (takeReset held s) := by
    unfold takeReset
    split
    · exact flagsFollowRouting_of_reset (s := pinReset s) rfl rfl
    · split
      · exact flagsFollowRouting_of_reset (s := pinReset s.nextFree) rfl rfl
      · exact hs
  unfold assertReset
  split
  · exact hs
  · exact htake
  · exact htake

/-! ### Every command and every step -/

/-- Every row keeps the law; the rows that leave routing and enable by the flags they raise. -/
theorem exec_flagsFollowRouting (i : Instr) (hs : FlagsFollowRouting s) : ∃ t, exec i s = .next t ∧ FlagsFollowRouting t := by
  have here := keepsFlags_refl s
  have command (c : Instr) : FlagsFollowRouting (windowCommand (performCommand c) s) :=
    windowCommand_flagsFollowRouting hs (performCommand_flagsFollowRouting c hs)
  have kept {t : State} (hv : t.flagView = s.flagView) : FlagsFollowRouting t := (here.congr hv).law hs
  cases i with
  | run | stop | step | flush | busReset | clearFault | softReset | post | pop | profApply | profLoad | srcApply | srcLoad
  | take | endService | arm | chStop | chAck => exact ⟨_, exec_command rfl s, command _⟩
  | unknownCmd w => exact ⟨_, rfl, windowCommand_flagsFollowRouting hs (writeCmd_flagsFollowRouting w hs)⟩
  | mdataRead running => exact ⟨_, rfl, (readMdata_keepsFlags running here).law hs⟩
  | mdataWrite data running => exact ⟨_, rfl, (writeMdata_keepsFlags data running here).law hs⟩
  | configWrite | attnCfgWrite => exact ⟨_, rfl, unlessInit_flagsFollowRouting hs hs⟩
  | windowWrite location w => exact ⟨_, rfl, writeLocation_flagsFollowRouting location w hs⟩
  | resetAssert held => exact ⟨_, rfl, assertReset_flagsFollowRouting held hs⟩
  | resetDeassert => exact ⟨_, rfl, kept (deassertReset_flagView s)⟩
  | clearSweepEnd => exact ⟨_, rfl, kept (endSweep_flagView s)⟩
  | busResetIntervalEnd => exact ⟨_, rfl, kept (endInterval_flagView s)⟩
  | settlePeriodsBegin => exact ⟨_, rfl, kept (beginSettle_flagView s)⟩
  | satnAssertion | identifyIntervalLapse =>
    refine ⟨_, rfl, ?_⟩
    split <;> exact hs
  | satnDeassertion =>
    refine ⟨_, rfl, ?_⟩
    split
    · exact (satnDeassertion_keepsFlags here).law hs
    · exact hs
  | backoffExpiry n =>
    refine ⟨_, rfl, ?_⟩
    unfold expireBackoff
    split <;> exact hs
  | dividerTakesEffect =>
    refine ⟨_, rfl, ?_⟩
    unfold applyDivider
    split <;> exact hs
  | dispatchChoice =>
    refine ⟨_, rfl, ?_⟩
    split
    · split
      · exact hs
      · exact (grantShared_keepsFlags here).law hs
    · exact hs
  | responseWindowExpiry | holdLimitReached | stationResponse | byteTransfer | senseSample | answerCheckSample =>
    exact ⟨_, rfl, (onCycle_keepsFlags _ here).law hs⟩
  | cycleEnd =>
    refine ⟨_, rfl, ?_⟩
    split
    · split
      · split
        · exact (deliver_keepsFlags (s₀ := s) (s := takeDivider s) _ _ here).law hs
        · exact hs
      · exact hs
    · exact hs
    · exact hs
  | ccbLoad x | channelCountStep x | channelAddressStep x | channelRollback x | inDataWrite x =>
    exact ⟨_, rfl, (serveSlots_keepsFlags _ x here).law hs⟩
  | channelDataStep x => exact ⟨_, rfl, (beginWordCycle_keepsFlags x.channel (serveSlots_keepsFlags _ x here)).law hs⟩

end

/-- Settles O56: the front command keeps the law row by row; an empty queue's period moves no flag. -/
theorem flagsFollowRoutingKept : Obligations.FlagsFollowRoutingKept := by
  intro s t hs hstep
  unfold step at hstep
  split at hstep
  · cases hstep
    exact (tick_keepsFlags (keepsFlags_refl s)).law hs
  · next c rest _ =>
    obtain ⟨u, hu, hkept⟩ := exec_flagsFollowRouting c (s := { s with pending := rest }) hs
    rw [hu] at hstep
    cases hstep
    exact hkept

/-- Settles O13: what ATTN_CFG_WRITE stores, in and outside INIT; the resets by their reset values, a bus reset start by all it
leaves of the Attention Controller. -/
theorem identifyIntervalStored : Obligations.IdentifyIntervalStored := by
  refine ⟨fun s w hi => ?_, fun s w hi => ?_, fun s hi => ?_, fun s held hp hheld => ?_, fun s => ?_⟩
  · have hexec : exec (.attnCfgWrite w) s = .next (storeInterval w s) := congrArg _ (unlessInit_performed _ hi)
    have hread : windowRead (storeInterval w s) 0x1D#5 = 0#8 ++ (storeInterval w s).attn.interval :=
      windowRead_running (s := storeInterval w s) hi _
    exact ⟨_, hexec, rfl, rfl, hread, rfl⟩
  · exact ⟨congrArg _ (unlessInit_init _ hi), if_pos hi⟩
  · exact ⟨_, exec_command_performed rfl hi, rfl⟩
  · have htake : assertReset held s = pinReset s := by
      unfold assertReset
      split
      · next h => exact absurd h hp
      all_goals exact if_pos hheld
    exact ⟨pinReset s, congrArg Host.Outcome.next htake, rfl⟩
  · refine ⟨_, rfl, ?_⟩
    unfold windowCommand
    split
    · rfl
    · exact (busResetCommand_keepsFlags (keepsFlags_refl s)).interval

end Sys2Proof.Machine
end

section
/-! PROOFS. The sources of an alert line: which may be presented, which one is, and the pending flags of the internal sources
(R173 to R177). -/

namespace Sys2Proof.Machine

/-! ### The first of highest priority (R175, R176) -/

/-- The source comes before another: its priority is higher, or equal and its number not higher (R176). -/
def Outranks (s : State) (x y : Source) : Prop :=
  sourcePriority s y < sourcePriority s x ∨ (sourcePriority s y = sourcePriority s x ∧ x ≤ y)

theorem Outranks.antisymm {s : State} {x y : Source} (hxy : Outranks s x y) (hyx : Outranks s y x) : x = y := by
  obtain hlt | ⟨heq, hle⟩ := hxy
  · obtain hgt | ⟨heq, -⟩ := hyx
    · exact absurd hlt hgt.asymm
    · exact absurd heq hlt.ne'
  · obtain hgt | ⟨-, hge⟩ := hyx
    · exact absurd heq hgt.ne'
    · exact le_antisymm hle hge

theorem highest_eq_none_iff (s : State) (xs : List Source) : highest s xs = none ↔ xs = [] := by
  constructor
  · intro hnone
    by_contra hne
    obtain ⟨x, hx, hmax⟩ := xs.toFinset.exists_max_image (sourcePriority s) (List.toFinset_nonempty_iff xs |>.mpr hne)
    refine List.find?_eq_none.mp hnone x (List.mem_toFinset.mp hx) (List.all_eq_true.mpr fun y hy => ?_)
    exact decide_eq_true (hmax y (List.mem_toFinset.mpr hy))
  · rintro rfl
    rfl

/-- The source found is in the list and comes before every other one of it. -/
theorem outranks_of_highest {s : State} {xs : List Source} (hsorted : xs.Pairwise (· < ·)) {x : Source}
    (h : highest s xs = some x) : x ∈ xs ∧ ∀ y ∈ xs, Outranks s x y := by
  obtain ⟨htop, before, after, rfl, hbefore⟩ := List.find?_eq_some_iff_append.mp h
  have hle : ∀ y ∈ before ++ x :: after, sourcePriority s y ≤ sourcePriority s x := fun y hy =>
    of_decide_eq_true (List.all_eq_true.mp htop y hy)
  refine ⟨by simp, fun y hy => ?_⟩
  obtain hlt | heq := (hle y hy).lt_or_eq
  · exact .inl hlt
  · refine .inr ⟨heq, ?_⟩
    obtain hy | rfl | hy : y ∈ before ∨ y = x ∨ y ∈ after := by simpa using hy
    · have hytop : ((before ++ x :: after).all fun z => decide (sourcePriority s z ≤ sourcePriority s y)) = true :=
        List.all_eq_true.mpr fun z hz => decide_eq_true (heq ▸ hle z hz)
      exact nomatch (congrArg not hytop).symm.trans (hbefore y hy)
    · exact le_rfl
    · obtain ⟨-, hafter, -⟩ := List.pairwise_append.mp hsorted
      exact (List.rel_of_pairwise_cons hafter hy).le

theorem highest_eq_some_iff {s : State} {xs : List Source} (hsorted : xs.Pairwise (· < ·)) (x : Source) :
    highest s xs = some x ↔ x ∈ xs ∧ ∀ y ∈ xs, Outranks s x y := by
  refine ⟨outranks_of_highest hsorted, fun ⟨hx, hfirst⟩ => ?_⟩
  cases h : highest s xs with
  | none => exact absurd hx ((highest_eq_none_iff s xs).mp h ▸ List.not_mem_nil)
  | some z =>
    obtain ⟨hz, hzfirst⟩ := outranks_of_highest hsorted h
    rw [Outranks.antisymm (hfirst z hz) (hzfirst x hx)]

/-- Of the sources a test takes, the one of highest priority and lowest number. -/
theorem highest_filter_eq_some_iff (s : State) (test : Source → Bool) (x : Source) :
    highest s ((List.finRange 19).filter test) = some x ↔ test x = true ∧ ∀ y, test y = true → Outranks s x y := by
  rw [highest_eq_some_iff ((List.sortedLT_finRange 19).pairwise.filter test)]
  simp

theorem highest_filter_eq_none_iff (s : State) (test : Source → Bool) :
    highest s ((List.finRange 19).filter test) = none ↔ ∀ x, test x ≠ true := by
  rw [highest_eq_none_iff, List.filter_eq_nil_iff]
  simp

/-! ### Presentable and presented sources (R176) -/

/-- The four conditions of R176. -/
def MayPresent (s : State) (l : Line) (x : Source) : Prop :=
  s.lineOf x = some l ∧ sourcePending s x = true ∧ (∀ m : Line, inServiceOn s m x = false) ∧
    ∀ y : Source, inServiceOn s l y = true → sourcePriority s y < sourcePriority s x

theorem inService_eq_false_iff (s : State) (x : Source) : inService s x = false ↔ ∀ l : Line, inServiceOn s l x = false := by
  rw [← Bool.not_eq_true, inService_iff, not_exists]
  simp only [Bool.not_eq_true]

theorem presentable_iff (s : State) (l : Line) (x : Source) : presentable s l x = true ↔ MayPresent s l x := by
  have habove : ((List.finRange 19).all fun y => !inServiceOn s l y || decide (sourcePriority s y < sourcePriority s x)) = true ↔
      ∀ y : Source, inServiceOn s l y = true → sourcePriority s y < sourcePriority s x := by
    simp [or_iff_not_imp_left]
  unfold presentable MayPresent
  rw [Bool.and_eq_true, Bool.and_eq_true, Bool.and_eq_true, habove, beq_iff_eq, Bool.not_eq_true', inService_eq_false_iff,
    and_assoc, and_assoc]

theorem presented_eq_some_iff (s : State) (l : Line) (x : Source) :
    presented s l = some x ↔ MayPresent s l x ∧ ∀ y : Source, MayPresent s l y → Outranks s x y := by
  simp only [presented, highest_filter_eq_some_iff, presentable_iff]

theorem presented_eq_none_iff (s : State) (l : Line) : presented s l = none ↔ ∀ x : Source, ¬ MayPresent s l x := by
  simp only [presented, highest_filter_eq_none_iff, ne_eq, presentable_iff]

/-- Settles O24: the presentable sources are those of R176, and the first of highest priority among them is presented. -/
theorem presentedSource : Obligations.PresentedSource :=
  fun s l => ⟨presented_eq_some_iff s l, presented_eq_none_iff s l⟩

/-! ### The internal sources (R173, R174) -/

/-- A source that is no station's is pending while its input holds and it is routed to a line. -/
theorem sourcePending_internal_iff {x : Source} (hx : x.station = none) (s : State) :
    sourcePending s x = true ↔ (s.lineOf x).isSome = true ∧ internalInput s x = true := by
  simp only [sourcePending, hx]
  exact Bool.and_eq_true_iff

theorem completionCondition_iff (s : State) :
    completionCondition s = true ↔ s.cfg.threshold.toNat + 1 ≤ s.cq.records.length := decide_eq_true_iff

theorem channelEndCondition_iff (s : State) : channelEndCondition s = true ↔ ∃ c : Channel, (s.channels[c]).endFlag = true := by
  simp [channelEndCondition]

theorem faultCondition_iff (s : State) : faultCondition s = true ↔ s.fault ≠ none := Option.isSome_iff_ne_none

theorem alertAsserted_iff (s : State) (l : Line) : alertAsserted s l = true ↔ ∃ x : Source, presented s l = some x :=
  Option.isSome_iff_exists

/-- Settles O25: each internal source by its input, the output by the presented source. -/
theorem internalSourcesAndOutputs : Obligations.InternalSourcesAndOutputs := fun s =>
  ⟨(sourcePending_internal_iff (x := Source.completion) rfl s).trans (and_congr_right' (completionCondition_iff s)),
    (sourcePending_internal_iff (x := Source.channelEnd) rfl s).trans (and_congr_right' (channelEndCondition_iff s)),
    (sourcePending_internal_iff (x := Source.fault) rfl s).trans (and_congr_right' (faultCondition_iff s)),
    sourcePending_internal_iff (x := Source.halted) rfl s, alertAsserted_iff s⟩

end Sys2Proof.Machine
end

section
/-! PROOFS. TAKE and END: what each does to the in-service set of the line ARG0 names (R178, R179). -/

namespace Sys2Proof.Machine

/-! ### The line ARG0 names -/

theorem argLine_line {s : State} {l : Line} (h : s.port.arg0.toNat = l.val) : argLine s = some l := by
  have hlt : s.port.arg0.toNat < 2 := h ▸ l.isLt
  exact (dif_pos hlt).trans (congrArg some (Fin.ext h))

theorem argLine_none {s : State} (h : 1 < s.port.arg0.toNat) : argLine s = none := dif_neg (by omega)

/-! ### TAKE (R178) -/

/-- A station's pending flag is cleared where its sense is EDGE; of the internal sources only source 19's. -/
theorem takePending_eq (x : Source) (s : State) : takePending x s =
    { s with
      alerts := { s.alerts with haltedPending := if x = Source.halted then false else s.alerts.haltedPending }
      attn := { s.attn with
        stations := match x.station with
          | some n =>
            match s.alerts.sense[n] with
            | .edge => s.attn.stations.set n { s.attn.stations[n] with pending := false }
            | .level => s.attn.stations
          | none => s.attn.stations } } := by
  unfold takePending sourceSense
  cases hx : x.station with
  | some n =>
    have hne : x ≠ Source.halted := by
      rintro rfl
      cases hx
    dsimp only
    rw [if_neg hne]
    cases s.alerts.sense[n] <;> rfl
  | none =>
    dsimp only
    by_cases hh : x = Source.halted
    · rw [if_pos hh, if_pos hh]
    · rw [if_neg hh, if_neg hh]

theorem takeSource_noLine {s : State} (h : argLine s = none) : takeSource s = s.answers .badField := by
  simp only [takeSource, h]
  rfl

section
variable {s : State} {l : Line} (hl : argLine s = some l)
include hl

theorem takeSource_nothing (h : presented s l = none) :
    takeSource s = { s with port := { s.port with arg2 := 0, result := .ok } } := by
  simp only [takeSource, hl, h]
  rfl

theorem takeSource_presented {x : Source} (h : presented s l = some x) :
    takeSource s = ((setInService l x true (takePending x s)).setArg2 (BitVec.ofNat 16 x.number)).setResult .ok := by
  simp only [takeSource, hl, h]

/-! ### END (R179) -/

/-- ARG1 names a source: it leaves the set if it is in it. -/
theorem endSource_named {x : Source} (hx : s.port.arg1.toNat = x.number) :
    endSource s = if inServiceOn s l x then (setInService l x false s).answers .ok else s.answers .notInService := by
  have hle : ¬ 19 < x.number := Nat.not_lt.mpr (sourceNumber_le x)
  simp only [endSource, hl, hx, if_neg hle, ofNumber_sourceNumber]
  by_cases hin : inServiceOn s l x = true
  · simp only [if_pos hin]
    rfl
  · simp only [if_neg hin]
    rfl

/-- ARG1 is 0: the top of the set leaves it. -/
theorem endSource_top (h0 : s.port.arg1 = 0#16) :
    endSource s = match topInService s l with
      | some x => (setInService l x false s).answers .ok
      | none => s.answers .notInService := by
  simp only [endSource, hl, h0]
  cases topInService s l <;> rfl

end

theorem endSource_badArgument {s : State} (h : 1 < s.port.arg0.toNat ∨ 19 < s.port.arg1.toNat) :
    endSource s = s.answers .badField := by
  unfold endSource
  split
  · rfl
  · next l hl =>
    have hline : ¬ 1 < s.port.arg0.toNat := fun hbad => nomatch (argLine_none hbad).symm.trans hl
    rw [if_pos (h.resolve_left hline)]
    rfl

theorem topInService_eq_none {s : State} {l : Line} (h : ∀ x : Source, inServiceOn s l x = false) :
    topInService s l = none :=
  (highest_filter_eq_none_iff s (inServiceOn s l)).mpr fun x => Bool.eq_false_iff.mp (h x)

/-- The source above all others in service is the top (R175). -/
theorem topInService_eq_some {s : State} {l : Line} {x : Source} (hx : inServiceOn s l x = true)
    (habove : ∀ y : Source, inServiceOn s l y = true → y ≠ x → sourcePriority s y < sourcePriority s x) :
    topInService s l = some x := by
  refine (highest_filter_eq_some_iff s (inServiceOn s l) x).mpr ⟨hx, fun y hy => ?_⟩
  by_cases hyx : y = x
  · exact .inr ⟨congrArg (sourcePriority s) hyx, hyx.ge⟩
  · exact .inl (habove y hy hyx)

/-! ### The statement -/

/-- Settles O26: TAKE by the source presented on the line, END by the source ARG1 names or the top. -/
theorem takeAndEnd : Obligations.TakeAndEnd := by
  refine ⟨fun s => ⟨exec_command_init rfl, fun hi => ?take⟩, fun s => ⟨exec_command_init rfl, fun hi => ?done⟩⟩
  case take =>
    have hexec : exec .take s = .next (takeSource s) := exec_command_performed rfl hi
    rw [hexec]
    refine ⟨fun hbad => congrArg _ (takeSource_noLine (argLine_none hbad)), fun l hl => ⟨fun hnone => ?_, fun x hx => ?_⟩⟩
    · exact congrArg _ (takeSource_nothing (argLine_line hl) hnone)
    · rw [takeSource_presented (argLine_line hl) hx, takePending_eq]
      rfl
  case done =>
    have hexec : exec .endService s = .next (endSource s) := exec_command_performed rfl hi
    rw [hexec]
    refine ⟨fun hbad => congrArg _ (endSource_badArgument hbad), fun l hl => ?_⟩
    have hl := argLine_line hl
    refine ⟨fun x hx => congrArg _ (endSource_named hl hx), fun x h0 hx habove => congrArg _ ?_, fun h0 hnone => congrArg _ ?_⟩
    · rw [endSource_top hl h0, topInService_eq_some hx habove]
      rfl
    · rw [endSource_top hl h0, topInService_eq_none hnone]

end Sys2Proof.Machine
end

section
/-! PROOFS. SRC_APPLY: the order of its refusals and what it configures (R170, R171). -/

namespace Sys2Proof.Machine

/-! ### Routing codes (R168) -/

theorem ofCode_code (r : Routing) : Routing.ofCode r.code = some r := by
  cases r with
  | masked => rfl
  | line l =>
    revert l
    decide
  | channel c =>
    revert c
    decide

/-- Code 3 is the one that stands for no routing. -/
theorem exists_code_eq {b : BitVec 3} (h : b ≠ 3#3) : ∃ r : Routing, r.code = b := by
  have hcodes : ∀ b : BitVec 3, b ≠ 3#3 → (Routing.ofCode b).map Routing.code = some b := by decide
  obtain ⟨r, -, hr⟩ := Option.map_eq_some_iff.mp (hcodes b h)
  exact ⟨r, hr⟩

/-- The codes from 4 on are the channels. -/
theorem four_le_code_iff (r : Routing) : 4 ≤ r.code.toNat ↔ r.isChannel = true := by
  rw [routingCode_toNat]
  cases r with
  | masked => simp [Routing.isChannel]
  | line l => simp [Routing.isChannel]; omega
  | channel c => simp [Routing.isChannel]

/-! ### The staged routing (R170 step 2) -/

/-- Sources 16 to 19 are no station's. -/
theorem station_eq_none_iff (x : Source) : x.station = none ↔ 16 ≤ x.number := by
  unfold Source.station Source.number
  split <;> simp <;> omega

section
variable {s : State} {x : Source} {route : Routing}

theorem stagedRouting_code (hcode : route.code = s.port.src.routing) (h : 16 ≤ x.number → route.isChannel = false) :
    stagedRouting s x = some route := by
  unfold stagedRouting
  rw [← hcode, ofCode_code]
  cases route with
  | masked | line => rfl
  | channel c =>
    have hstation : x.station.isSome = true :=
      Option.isSome_iff_ne_none.mpr fun hx => nomatch h ((station_eq_none_iff x).mp hx)
    exact if_pos hstation

theorem stagedRouting_none (h : s.port.src.routing = 3#3 ∨ (16 ≤ x.number ∧ 4 ≤ s.port.src.routing.toNat)) :
    stagedRouting s x = none := by
  unfold stagedRouting
  obtain h | ⟨hx, hr⟩ := h
  · rw [h]
    rfl
  · have h3 : s.port.src.routing ≠ 3#3 := by
      intro h3
      rw [h3] at hr
      exact absurd hr (by decide)
    obtain ⟨route, hroute⟩ := exists_code_eq h3
    rw [← hroute, ofCode_code]
    rw [← hroute, four_le_code_iff] at hr
    cases route with
    | masked | line => cases hr
    | channel c =>
      rw [(station_eq_none_iff x).mpr hx]
      rfl

/-! ### The command case by case (R170, R171) -/

theorem applySource_noSource (h : Source.ofNumber s.port.srcSel.toNat = none) : applySource s = s.answers .badField := by
  simp only [applySource, h]
  rfl

theorem applySource_noRouting (hx : s.port.srcSel.toNat = x.number) (h : stagedRouting s x = none) :
    applySource s = s.answers .badField := by
  simp only [applySource, hx, ofNumber_sourceNumber, h]
  rfl

theorem applySource_inService (hx : s.port.srcSel.toNat = x.number) (hr : stagedRouting s x = some route)
    (h : inService s x = true) : applySource s = s.answers .sourceBusy := by
  simp only [applySource, hx, ofNumber_sourceNumber, hr, h, if_true]
  rfl

/-- What a routing change clears, field by field (R163, R171). -/
theorem clearRouted_eq (x : Source) (s : State) : clearRouted x s =
    { s with
      alerts := { s.alerts with haltedPending := if x = Source.halted then false else s.alerts.haltedPending }
      attn := { s.attn with
        stations := match x.station with
          | some n => s.attn.stations.set n { s.attn.stations[n] with pending := false, fresh := false }
          | none => s.attn.stations } } := by
  unfold clearRouted
  cases hx : x.station with
  | some n =>
    have hne : x ≠ Source.halted := by
      rintro rfl
      cases hx
    dsimp only
    rw [if_neg hne]
    rfl
  | none =>
    dsimp only
    by_cases hh : x = Source.halted
    · rw [if_pos hh, if_pos hh]
    · rw [if_neg hh, if_neg hh]

theorem applySense_eq (x : Source) (s : State) : applySense x s =
    { s with
      alerts := { s.alerts with
        sense := match x.station with
          | some n => s.alerts.sense.set n s.port.src.sense
          | none => s.alerts.sense } } := by
  unfold applySense
  cases x.station <;> rfl

/-- A source out of service takes the staged configuration (R171). -/
theorem applySource_configures (hx : s.port.srcSel.toNat = x.number) (hr : stagedRouting s x = some route)
    (h : inService s x = false) :
    applySource s =
      { s with
        alerts := { s.alerts with
          config := s.alerts.config.set x { routing := route, priority := s.port.src.priority }
          sense := match x.station with
            | some n => s.alerts.sense.set n s.port.src.sense
            | none => s.alerts.sense
          haltedPending :=
            if x = Source.halted ∧ (s.alerts.config[x]).routing ≠ route then false else s.alerts.haltedPending }
        attn := { s.attn with
          stations := match x.station with
            | some n =>
              if (s.alerts.config[x]).routing = route then s.attn.stations
              else s.attn.stations.set n { s.attn.stations[n] with pending := false, fresh := false }
            | none => s.attn.stations }
        port := { s.port with result := .ok } } := by
  simp only [applySource, hx, ofNumber_sourceNumber, hr, h, Bool.false_eq_true, if_false]
  by_cases hsame : (s.alerts.config[x]).routing = route
  · simp only [applySense_eq, hsame, ne_eq, not_true_eq_false, and_false, if_false]
    cases x.station <;> rfl
  · simp only [applySense_eq, clearRouted_eq, ne_eq, hsame, not_false_eq_true, and_true]
    cases x.station <;> rfl

end

/-! ### The statement -/

/-- SRC_SEL names a source from 1 to 19. -/
theorem exists_sourceNumber {b : BitVec 5} (h : ¬ (b = 0#5 ∨ 19 < b.toNat)) : ∃ x : Source, b.toNat = x.number := by
  have h0 : b.toNat ≠ 0 := fun h0 => h (.inl (BitVec.eq_of_toNat_eq h0))
  have h19 : b.toNat ≤ 19 := Nat.not_lt.mp fun hlt => h (.inr hlt)
  exact ⟨⟨b.toNat - 1, by omega⟩, (Nat.sub_add_cancel (Nat.pos_of_ne_zero h0)).symm⟩

/-- Settles O23: by the source SRC_SEL names, its staged routing and whether it is in service. -/
theorem srcApplyConfigures : Obligations.SrcApplyConfigures := by
  have hexec {s : State} (hi : s.inInit = false) : exec .srcApply s = .next (applySource s) := exec_command_performed rfl hi
  refine ⟨fun s => ⟨exec_command_init rfl, fun hi => ?refusals⟩, fun s x route hi hx hcode hroute hout => ?configures⟩
  case refusals =>
    rw [hexec hi]
    refine ⟨fun hbad => congrArg _ ?_, fun x hx h3 hroute hin => congrArg _ ?_⟩
    · by_cases hsel : s.port.srcSel = 0#5 ∨ 19 < s.port.srcSel.toNat
      · exact applySource_noSource (ofNumber_noSource hsel)
      · obtain ⟨x, hx⟩ := exists_sourceNumber hsel
        rw [← or_assoc, hx] at hbad
        exact applySource_noRouting hx (stagedRouting_none (hbad.resolve_left (hx ▸ hsel)))
    · obtain ⟨route, hcode⟩ := exists_code_eq h3
      have hkind : 16 ≤ x.number → route.isChannel = false := fun h16 =>
        Bool.eq_false_iff.mpr (mt (four_le_code_iff route).mpr (Nat.not_le.mpr (hcode ▸ hroute h16)))
      exact applySource_inService hx (stagedRouting_code hcode hkind) ((inService_iff s x).mpr hin)
  case configures =>
    have hservice : inService s x = false := (inService_eq_false_iff s x).mpr hout
    exact (hexec hi).trans (congrArg _ (applySource_configures hx (stagedRouting_code hcode hroute) hservice))

end Sys2Proof.Machine
end

section
/-! PROOFS. Every step keeps the law of the sources in service: what changes a routing, a priority or an in-service set, and what
leaves all three (R175). -/

namespace Sys2Proof.Machine

/-! ### What the law reads -/

/-- The routings and priorities, and the in-service sets. -/
def State.service (s : State) : Vector SourceConfig 19 × Vector (Vector Bool 19) 2 := (s.alerts.config, s.alerts.inService)

theorem service_congr {s t : State} (hconfig : t.alerts.config = s.alerts.config)
    (hset : t.alerts.inService = s.alerts.inService) : t.service = s.service := Prod.ext hconfig hset

/-- The law holds of a state with routings, priorities and in-service sets of which it held. -/
theorem inServiceLaw_congr {s t : State} (hs : InServiceLaw s) (h : t.service = s.service) : InServiceLaw t := by
  have hconfig : t.alerts.config = s.alerts.config := congrArg Prod.fst h
  have hset : t.alerts.inService = s.alerts.inService := congrArg Prod.snd h
  unfold InServiceLaw inServiceOn State.lineOf sourcePriority
  rw [hconfig, hset]
  exact hs

/-- The law rests on the configuration of the sources in service alone. -/
theorem inServiceLaw_of_subset {s t : State} (hs : InServiceLaw s)
    (hsubset : ∀ (l : Line) (x : Source), inServiceOn t l x = true → inServiceOn s l x = true)
    (hconfig : ∀ (l : Line) (x : Source), inServiceOn t l x = true → t.alerts.config[x] = s.alerts.config[x]) :
    InServiceLaw t := by
  obtain ⟨hrouted, hone⟩ := hs
  refine ⟨fun l x hx => ?_, fun l x y hx hy heq => hone l x y (hsubset l x hx) (hsubset l y hy) ?_⟩
  · rw [State.lineOf, hconfig l x hx]
    exact hrouted l x (hsubset l x hx)
  · rw [sourcePriority, sourcePriority, hconfig l x hx, hconfig l y hy] at heq
    exact heq

/-- A reset leaves no source in service (R183). -/
theorem inServiceLaw_of_reset {s : State} (h : s.alerts = Alerts.reset) : InServiceLaw s := by
  have hnone (l : Line) (x : Source) : inServiceOn s l x = false := by
    simp [inServiceOn, h, Alerts.reset]
  exact ⟨fun l x hx => (nomatch (hnone l x).symm.trans hx), fun l x _ hx => (nomatch (hnone l x).symm.trans hx)⟩

/-! ### SRC_APPLY, TAKE and END (R170, R178, R179) -/

theorem takePending_service (x : Source) (s : State) : (takePending x s).service = s.service := by
  rw [takePending_eq]
  rfl

theorem inServiceOn_setInService (l m : Line) (x y : Source) (v : Bool) (s : State) :
    inServiceOn (setInService l x v s) m y = if l = m ∧ x = y then v else inServiceOn s m y := by
  unfold inServiceOn setInService
  dsimp only
  rw [getElem_set_fin]
  by_cases hl : l = m
  · subst hl
    rw [if_pos rfl, getElem_set_fin]
    simp only [true_and]
  · rw [if_neg hl, if_neg (fun h => hl h.1)]

section
variable {s : State} (hs : InServiceLaw s)
include hs

/-- The source SRC_APPLY configures is out of service, so the law says nothing of it. -/
theorem applySource_inServiceLaw : InServiceLaw (applySource s) := by
  by_cases hsel : s.port.srcSel = 0#5 ∨ 19 < s.port.srcSel.toNat
  · rw [applySource_noSource (ofNumber_noSource hsel)]
    exact hs
  · obtain ⟨x, hx⟩ := exists_sourceNumber hsel
    cases hroute : stagedRouting s x with
    | none =>
      rw [applySource_noRouting hx hroute]
      exact hs
    | some route =>
      cases hin : inService s x with
      | true =>
        rw [applySource_inService hx hroute hin]
        exact hs
      | false =>
        rw [applySource_configures hx hroute hin]
        refine inServiceLaw_of_subset hs (fun _ _ h => h) fun l y hy => ?_
        have hne : x ≠ y := by
          rintro rfl
          exact nomatch ((inService_eq_false_iff s x).mp hin l).symm.trans hy
        exact (getElem_set_fin _ _ _ _).trans (if_neg hne)

/-- A presented source is routed to its line, and its priority is above that of every source in service there (R176). -/
theorem setInService_presented {l : Line} {x : Source} (hx : presented s l = some x) :
    InServiceLaw (setInService l x true s) := by
  obtain ⟨⟨hline, -, -, habove⟩, -⟩ := (presented_eq_some_iff s l x).mp hx
  obtain ⟨hrouted, hone⟩ := hs
  have hcases {m : Line} {y : Source} (hy : inServiceOn (setInService l x true s) m y = true) :
      (l = m ∧ x = y) ∨ inServiceOn s m y = true := by
    rw [inServiceOn_setInService] at hy
    split at hy
    · next hnew => exact .inl hnew
    · exact .inr hy
  refine ⟨fun m y hy => ?_, fun m y z hy hz heq => ?_⟩
  · obtain ⟨rfl, rfl⟩ | hy := hcases hy
    · exact hline
    · exact hrouted m y hy
  · replace heq : sourcePriority s y = sourcePriority s z := heq
    obtain ⟨rfl, rfl⟩ | hy := hcases hy
    · obtain ⟨-, rfl⟩ | hz := hcases hz
      · rfl
      · exact absurd heq (habove z hz).ne'
    · obtain ⟨rfl, rfl⟩ | hz := hcases hz
      · exact absurd heq (habove y hy).ne
      · exact hone m y z hy hz heq

theorem takeSource_inServiceLaw : InServiceLaw (takeSource s) := by
  unfold takeSource
  split
  · exact hs
  · next l _ =>
    split
    · exact hs
    · next x hx =>
      refine inServiceLaw_congr (setInService_presented hs hx) ?_
      exact congrArg (fun v => (v.1, v.2.set l ((v.2[l]).set x true))) (takePending_service x s)

theorem endSource_inServiceLaw : InServiceLaw (endSource s) := by
  unfold endSource
  split
  · exact hs
  · next l _ =>
    dsimp only
    split
    · exact hs
    · split
      · exact hs
      · next x _ =>
        refine inServiceLaw_of_subset (t := setInService l x false s) hs (fun m y hy => ?_) fun _ _ _ => rfl
        rw [inServiceOn_setInService] at hy
        split at hy
        · cases hy
        · exact hy

end

/-! ### Bus work begun and gone on (R86 to R92) -/

theorem beginWordCycle_service (c : Channel) (s : State) : (beginWordCycle c s).service = s.service := by
  unfold beginWordCycle
  split
  · split <;> rfl
  · rfl

theorem onCycle_service (f : BusWork → Cycle → Cycle) (s : State) : (onCycle f s).service = s.service := by
  unfold onCycle
  split
  · split <;> rfl
  · rfl
  · rfl

theorem grantWord_service (c : Channel) (s : State) : (grantWord c s).service = s.service := by
  unfold grantWord
  dsimp only
  split <;> rfl

theorem activate_service (r : Request) (s : State) : (activate r s).service = s.service := by
  unfold activate
  dsimp only
  split <;> rfl

theorem grantRequest_service (r : Request) (s : State) : (grantRequest r s).service = s.service := by
  have hactive := activate_service r { s with engine := { s.engine with share := 0 } }
  unfold grantRequest
  dsimp only
  split
  · exact (service_congr (retire_alerts_config _ _ _ _) (retire_alerts_inService _ _ _ _)).trans hactive
  · split <;> exact hactive

theorem grantShared_service (s : State) : (grantShared s).service = s.service := by
  unfold grantShared
  split
  · exact grantRequest_service _ s
  · exact grantWord_service _ s
  · split
    · exact grantWord_service _ _
    · exact grantRequest_service _ s
  · rfl

theorem deliver_service (w : BusWork) (o : CycleOutcome) (s : State) : (deliver w o s).service = s.service := by
  unfold deliver resetAfterHang
  split
  · split <;> exact service_congr (by simp) (by simp)
  · exact service_congr (by simp) (by simp)
  · dsimp only
    split <;> exact service_congr (by simp) (by simp)

theorem tick_service (s : State) : (tick s).service = s.service := by
  rw [tick_frame]
  rfl

/-! ### Memory accesses (R110, R113) -/

theorem channelAccess_service (c : Channel) (s : State) : (channelAccess c s).service = s.service :=
  service_congr (channelAccess_alerts_config c s) (channelAccess_alerts_inService c s)

theorem serveSlots_service (inStep : ChState → Bool) (x : Service) (s : State) :
    (serveSlots inStep x.channel x.slots s).service = s.service :=
  serveSlots_keeps (P := fun t => t.service = s.service) inStep x.channel x.slots
    (fun c t h => (channelAccess_service c t).trans h) rfl

theorem windowTurn_service (running : Bool) (s : State) : (windowTurn running s).service = s.service := by
  unfold windowTurn
  split
  · exact channelAccess_service _ s
  · rfl

theorem readMdata_service (running : Bool) (s : State) : (readMdata running s).service = s.service := by
  unfold readMdata
  split
  · rfl
  · exact windowTurn_service running s

theorem writeMdata_service (data : Word) (running : Bool) (s : State) : (writeMdata data running s).service = s.service := by
  unfold writeMdata
  split
  · rfl
  · exact windowTurn_service running s

/-! ### The other commands, the interval and RESET# -/

theorem stopEngine_service (s : State) : (stopEngine s).service = s.service := by
  unfold stopEngine
  split
  · split <;> rfl
  · split <;> rfl
  · rfl
  · rfl

theorem busResetCommand_service (s : State) : (busResetCommand s).service = s.service := by
  unfold busResetCommand
  split
  · rfl
  · exact service_congr (startBusReset_alerts_config s) (startBusReset_alerts_inService s)

theorem applyProfile_service (s : State) : (applyProfile s).service = s.service := by
  unfold applyProfile
  split
  · rfl
  · split
    · dsimp only
      split <;> rfl
    · rfl

theorem beginSettle_service (s : State) : (beginSettle s).service = s.service := by
  unfold beginSettle
  (repeat' split) <;> rfl

theorem endInterval_service (s : State) : (endInterval s).service = s.service := by
  unfold endInterval
  split <;> rfl

theorem endSweep_service (s : State) : (endSweep s).service = s.service := by
  unfold endSweep
  split
  · exact endInterval_service s
  · rfl
  · rfl

theorem deassertReset_service (s : State) : (deassertReset s).service = s.service := by
  unfold deassertReset
  split <;> rfl

section
variable {s : State} (hs : InServiceLaw s)
include hs

theorem assertReset_inServiceLaw (held : Nat) : InServiceLaw (assertReset held s) := by
  have htake : InServiceLaw (takeReset held s) := by
    unfold takeReset
    split
    · exact inServiceLaw_of_reset (s := pinReset s) rfl
    · split
      · exact inServiceLaw_of_reset (s := pinReset s.nextFree) rfl
      · exact hs
  unfold assertReset
  split
  · exact hs
  · exact htake
  · exact htake

/-- Of the commands SRC_APPLY, TAKE, END and SOFT_RESET change what the law reads. -/
theorem performCommand_inServiceLaw (c : Instr) : InServiceLaw (performCommand c s) := by
  cases c with
  | srcApply => exact applySource_inServiceLaw hs
  | take => exact takeSource_inServiceLaw hs
  | endService => exact endSource_inServiceLaw hs
  | softReset => exact inServiceLaw_of_reset (s := softReset s) rfl
  | stop => exact inServiceLaw_congr hs (stopEngine_service s)
  | busReset => exact inServiceLaw_congr hs (busResetCommand_service s)
  | profApply => exact inServiceLaw_congr hs (applyProfile_service s)
  | step =>
    simp only [performCommand, stepEngine]
    split <;> exact hs
  | post | pop =>
    simp only [performCommand, postRequest, popCompletion]
    (repeat' split) <;> exact hs
  | profLoad | srcLoad =>
    simp only [performCommand, loadProfile, loadSource]
    split <;> exact hs
  | arm | chStop | chAck =>
    simp only [performCommand, armChannel, stopChannel, ackChannel]
    (repeat' split) <;> exact hs
  | run | flush | clearFault => exact hs
  | unknownCmd | mdataRead | mdataWrite | configWrite | attnCfgWrite | windowWrite | resetAssert | resetDeassert | clearSweepEnd
  | satnAssertion | satnDeassertion | dispatchChoice | responseWindowExpiry | holdLimitReached | cycleEnd | busResetIntervalEnd
  | dividerTakesEffect | identifyIntervalLapse | settlePeriodsBegin | backoffExpiry | ccbLoad | channelCountStep
  | channelAddressStep | channelDataStep | channelRollback | inDataWrite | stationResponse | byteTransfer | senseSample
  | answerCheckSample => exact hs

/-- In INIT a command changes its result alone. -/
theorem windowCommand_inServiceLaw {body : State → State} (hb : InServiceLaw (body s)) : InServiceLaw (windowCommand body s) := by
  unfold windowCommand
  split
  · exact hs
  · exact hb

/-- In INIT a write of another location changes nothing. -/
theorem unlessInit_inServiceLaw {write : State → State} (hw : InServiceLaw (write s)) : InServiceLaw (unlessInit write s) := by
  unfold unlessInit
  split
  · exact hs
  · exact hw

theorem writeCmd_inServiceLaw (w : Word) : InServiceLaw (writeCmd w s) := by
  unfold writeCmd
  split
  · exact performCommand_inServiceLaw hs _
  · exact hs

theorem writeLocation_inServiceLaw (location : BitVec 5) (w : Word) : InServiceLaw (writeLocation location w s) := by
  unfold writeLocation
  split
  · exact windowCommand_inServiceLaw hs (writeCmd_inServiceLaw hs w)
  · exact inServiceLaw_congr hs (writeMdata_service w false s)
  · exact unlessInit_inServiceLaw hs hs
  · exact unlessInit_inServiceLaw hs hs
  · refine unlessInit_inServiceLaw hs ?_
    rw [storeLocation_frame]
    exact hs

/-! ### Every command and every step -/

/-- Every row keeps the law; beside the commands and the writes of CMD only RESET_ASSERT changes what it reads. -/
theorem exec_inServiceLaw (i : Instr) : ∃ t, exec i s = .next t ∧ InServiceLaw t := by
  have command (c : Instr) : InServiceLaw (windowCommand (performCommand c) s) :=
    windowCommand_inServiceLaw hs (performCommand_inServiceLaw hs c)
  have kept {t : State} (h : t.service = s.service) : InServiceLaw t := inServiceLaw_congr hs h
  cases i with
  | run | stop | step | flush | busReset | clearFault | softReset | post | pop | profApply | profLoad | srcApply | srcLoad
  | take | endService | arm | chStop | chAck => exact ⟨_, exec_command rfl s, command _⟩
  | unknownCmd w => exact ⟨_, rfl, windowCommand_inServiceLaw hs (writeCmd_inServiceLaw hs w)⟩
  | mdataRead running => exact ⟨_, rfl, kept (readMdata_service running s)⟩
  | mdataWrite data running => exact ⟨_, rfl, kept (writeMdata_service data running s)⟩
  | configWrite | attnCfgWrite => exact ⟨_, rfl, unlessInit_inServiceLaw hs hs⟩
  | windowWrite location w => exact ⟨_, rfl, writeLocation_inServiceLaw hs location w⟩
  | resetAssert held => exact ⟨_, rfl, assertReset_inServiceLaw hs held⟩
  | resetDeassert => exact ⟨_, rfl, kept (deassertReset_service s)⟩
  | clearSweepEnd => exact ⟨_, rfl, kept (endSweep_service s)⟩
  | busResetIntervalEnd => exact ⟨_, rfl, kept (endInterval_service s)⟩
  | settlePeriodsBegin => exact ⟨_, rfl, kept (beginSettle_service s)⟩
  | satnAssertion | satnDeassertion | identifyIntervalLapse =>
    refine ⟨_, rfl, ?_⟩
    split <;> exact hs
  | backoffExpiry n =>
    refine ⟨_, rfl, ?_⟩
    unfold expireBackoff
    split <;> exact hs
  | dividerTakesEffect =>
    refine ⟨_, rfl, ?_⟩
    unfold applyDivider
    split <;> exact hs
  | dispatchChoice =>
    refine ⟨_, rfl, ?_⟩
    split
    · split
      · exact hs
      · exact kept (grantShared_service s)
    · exact hs
  | responseWindowExpiry | holdLimitReached | stationResponse | byteTransfer | senseSample | answerCheckSample =>
    exact ⟨_, rfl, kept (onCycle_service _ s)⟩
  | cycleEnd =>
    refine ⟨_, rfl, ?_⟩
    split
    · split
      · split
        · exact kept (deliver_service _ _ (takeDivider s))
        · exact hs
      · exact hs
    · exact hs
    · exact hs
  | ccbLoad x | channelCountStep x | channelAddressStep x | channelRollback x | inDataWrite x =>
    exact ⟨_, rfl, kept (serveSlots_service _ x s)⟩
  | channelDataStep x => exact ⟨_, rfl, kept ((beginWordCycle_service x.channel _).trans (serveSlots_service _ x s))⟩

end

/-- Settles O55: the front command keeps the law row by row; an empty queue's period leaves all it reads. -/
theorem inServiceLawKept : Obligations.InServiceLawKept := by
  intro s t hs hstep
  unfold step at hstep
  split at hstep
  · cases hstep
    exact inServiceLaw_congr hs (tick_service s)
  · next c rest _ =>
    obtain ⟨u, hu, hkept⟩ := exec_inServiceLaw (s := { s with pending := rest }) hs c
    rw [hu] at hstep
    cases hstep
    exact hkept

end Sys2Proof.Machine
end

section
/-! PROOFS. The fault record: what a writer leaves in it and what CLEAR_FAULT takes from it (R185, R187). -/

namespace Sys2Proof.Machine

/-! ### A fault is written (R185) -/

/-- A writer leaves the record full, whatever it finds in it. -/
theorem faultCondition_writeFault (k : FaultKind) (n : Option Station) (s : State) :
    faultCondition (writeFault k n s) = true := by
  rw [faultCondition_iff]
  cases h : s.fault with
  | none => exact writeFault_empty k n h ▸ Option.some_ne_none _
  | some f => exact writeFault_full k n h ▸ Option.some_ne_none _

/-! ### CLEAR_FAULT (R187) -/

theorem clearFaultRecord_eq (s : State) : clearFaultRecord s =
    { s with fault := none, attn := { s.attn with suspended := false }, port := { s.port with result := .ok } } := rfl

theorem faultCondition_clearFaultRecord (s : State) : faultCondition (clearFaultRecord s) = false := by
  rw [clearFaultRecord_eq, faultCondition, Option.isSome_none]

/-! ### The statement -/

/-- Settles O27: a write by whether the record is empty or full, CLEAR_FAULT by the INIT check in front of it. -/
theorem faultRecordWrittenAndCleared : Obligations.FaultRecordWrittenAndCleared := by
  refine ⟨fun s k n => ⟨?written, faultCondition_writeFault k n s⟩, fun s => exec_command_init rfl, fun s hi => ?cleared⟩
  case written =>
    rw [writeFault_eq]
    cases s.fault <;> rfl
  case cleared =>
    have hexec : exec .clearFault s = .next (clearFaultRecord s) := exec_command_performed rfl hi
    exact ⟨clearFaultRecord s, hexec, faultCondition_clearFaultRecord s, clearFaultRecord_eq s⟩

end Sys2Proof.Machine
end

section
/-! PROOFS. The rows of the window that are no named command: writes that store nothing, writes of an action location, words that
are no code (R191, R194), and CONFIG (R201). -/

namespace Sys2Proof.Machine

/-! ### Locations that no write stores into (R191) -/

/-- The read-only locations and the unassigned 1Eh and 1Fh (Table 4 of spec/11). -/
def readOnlyLocations : List (BitVec 5) :=
  [0x00#5, 0x01#5, 0x09#5, 0x0A#5, 0x0B#5, 0x14#5, 0x15#5, 0x16#5, 0x17#5, 0x19#5, 0x1A#5, 0x1B#5, 0x1E#5, 0x1F#5]

theorem readOnlyLocations_not_action : ∀ location ∈ readOnlyLocations, isActionLocation location = false := by
  simp [readOnlyLocations, isActionLocation]

theorem storeLocation_readOnly (w : Word) (s : State) : ∀ location ∈ readOnlyLocations, storeLocation location w s = s := by
  simp [readOnlyLocations, storeLocation]

/-- A write that stores nothing changes nothing, in INIT and outside it. -/
theorem unlessInit_noStore {write : State → State} {s : State} (h : write s = s) : unlessInit write s = s := by
  unfold unlessInit
  split
  · rfl
  · exact h

theorem exec_windowWrite_readOnly {location : BitVec 5} (h : location ∈ readOnlyLocations) (w : Word) (s : State) :
    exec (.windowWrite location w) s = .next s :=
  congrArg Host.Outcome.next <|
    (writeLocation_plain (readOnlyLocations_not_action location h) w s).trans
      (unlessInit_noStore (storeLocation_readOnly w s location h))

/-! ### Words written to CMD (R194) -/

/-- A word that decodes to a command is that command's code: `decodeCommand` compares the whole word. -/
theorem encodeCommand_of_decodeCommand {c : Instr} {w : Word} (h : decodeCommand w = some c) : encodeCommand c = some w := by
  have code {v : Word} (hw : w.toNat = v.toNat) : some v = some w := congrArg some (BitVec.eq_of_toNat_eq hw.symm)
  unfold decodeCommand at h
  split at h
  case h_19 => cases h
  all_goals
    next hw =>
      cases h
      exact code hw

theorem writeCmd_command {c : Instr} {w : Word} (h : decodeCommand w = some c) : writeCmd w = performCommand c := by
  funext s
  simp only [writeCmd, h]

theorem writeCmd_unknown {w : Word} (h : decodeCommand w = none) (s : State) : writeCmd w s = s.answers .unknownCmd := by
  simp only [writeCmd, h]
  rfl

/-- A write of CMD is the row of the command its word spells. -/
theorem exec_windowWrite_command {c : Instr} {w : Word} (h : decodeCommand w = some c) (s : State) :
    exec (.windowWrite 0x02#5 w) s = exec c s :=
  calc exec (.windowWrite 0x02#5 w) s
    _ = .next (windowCommand (writeCmd w) s) := rfl
    _ = .next (windowCommand (performCommand c) s) := by rw [writeCmd_command h]
    _ = exec c s := (exec_command (encodeCommand_of_decodeCommand h) s).symm

/-- Settles O7: the read-only locations store nothing; MDATA, CONFIG and ATTN_CFG are written by the meanings of their rows, CMD by
the word's command. -/
theorem otherWindowWrites : Obligations.OtherWindowWrites := by
  refine ⟨fun s w hi hw => ?unknown, fun s w =>
    ⟨fun location hl => exec_windowWrite_readOnly hl w s, rfl, rfl, rfl, fun c hc => exec_windowWrite_command hc s, fun _ => rfl⟩⟩
  case unknown => exact congrArg Host.Outcome.next ((windowCommand_performed _ hi).trans (writeCmd_unknown hw s))

/-! ### CONFIG (R201) -/

/-- CONFIG: bits 15-12, 8 and 6-0 hold its four fields. -/
theorem configWord_ofWord (w : Word) : (ConfigReg.ofWord w).word = w &&& 0xF17F#16 := by
  refine BitVec.eq_of_getLsbD_eq fun i hi => ?_
  simp only [ConfigReg.word, ConfigReg.ofWord, BitVec.getLsbD_append]
  interval_cases i <;> simp

/-- Settles O12: outside INIT the row is `storeConfig`, which writes CONFIG's record alone. -/
theorem configWriteStores : Obligations.ConfigWriteStores := by
  intro s w hi
  have hexec : exec (.configWrite w) s = .next (storeConfig w s) := congrArg _ (unlessInit_performed _ hi)
  have hread : windowRead (storeConfig w s) 0x1C#5 = (ConfigReg.ofWord w).word :=
    windowRead_running (s := storeConfig w s) hi 0x1C#5
  exact ⟨storeConfig w s, hexec, rfl, rfl, rfl, rfl, rfl, hread.trans (configWord_ofWord w)⟩

end Sys2Proof.Machine
end

section
/-! PROOFS. The reset values: SOFT_RESET, which leaves them beside what no reset touches (R119, R198), and the laws in the state
after reset (R199). -/

namespace Sys2Proof.Machine

/-! ### SOFT_RESET (R198) -/

/-- SOFT_RESET keeps the memory's words, the SATN# level, the last read's data and the model's own counter and queue. -/
theorem softReset_eq (s : State) : softReset s =
    { State.reset with
      engine := { State.reset.engine with bus := .resetting 1 (pins s).sdir }
      xmem := { State.reset.xmem with mem := s.xmem.mem }
      attn := { State.reset.attn with satn := s.attn.satn }
      port := { State.reset.port with readData := s.port.readData, rdyHeld := s.port.rdyHeld }
      free := s.free
      pending := s.pending } := rfl

/-- Settles O45: outside INIT the row is `softReset`. -/
theorem softResetState : Obligations.SoftResetState := fun s hi =>
  calc exec .softReset s
    _ = .next (softReset s) := exec_command_performed rfl hi
    _ = _ := congrArg Host.Outcome.next (softReset_eq s)

/-! ### The laws after reset -/

/-- The interval is 32, no empty answer is counted and every timer is stopped. -/
theorem timersInRange_reset : State.reset.tracked.TimersInRange :=
  ⟨⟨by decide, by decide, rfl⟩, backoffInRange_replicate⟩

/-- Every channel is idle, and no work is on the bus. -/
theorem channelsLegal_afterReset : ChannelsLegal State.reset := by
  refine channelsLegal_offWords (fun c => ?_) nofun
  have hrec : State.reset.channels[c] = ChannelRec.reset := Vector.getElem_replicate c.isLt
  rw [hrec]
  rfl

/-- Settles O51: each law by its lemma about the reset values of what it reads. -/
theorem lawsHoldAtReset : Obligations.LawsHoldAtReset := by
  obtain ⟨hmem, hprofiles⟩ := storesLegal_reset (m := State.reset.xmem.mem) ⟨.nil, nofun⟩
  have hfit : cyclesFit State.reset = true := cyclesFit_of_idle rfl
  have hengine : engineLegal State.reset = true := rfl
  have hservice : InServiceLaw State.reset := inServiceLaw_of_reset rfl
  have hflags : FlagsFollowRouting State.reset := flagsFollowRouting_of_reset rfl rfl
  exact ⟨hmem, hprofiles, hfit, hengine, hservice, hflags, (timersLegal_iff _).mpr timersInRange_reset,
    (queueLaw_iff _).mpr accounting_reset, (requestStates_iff _).mpr statesAgree_reset, channelsLegal_afterReset⟩

end Sys2Proof.Machine
end

section
/-! PROOFS. No command touches the queue of commands: the operations of every row leave `State.pending` as it is, and every row
answers a next state (assumption 22). -/

namespace Sys2Proof.Machine

/-! ### The commands of CMD -/

theorem stopEngine_pending (s : State) : (stopEngine s).pending = s.pending := by
  unfold stopEngine
  split
  · split <;> rfl
  · split <;> rfl
  · rfl
  · rfl

theorem stepEngine_pending (s : State) : (stepEngine s).pending = s.pending := by
  unfold stepEngine
  split <;> rfl

theorem postRequest_pending (s : State) : (postRequest s).pending = s.pending := by
  unfold postRequest
  split
  · rfl
  · dsimp only
    split
    · rfl
    · split <;> rfl

theorem popCompletion_pending (s : State) : (popCompletion s).pending = s.pending := by
  unfold popCompletion
  split <;> rfl

theorem busResetCommand_pending (s : State) : (busResetCommand s).pending = s.pending := by
  unfold busResetCommand
  split
  · rfl
  · exact startBusReset_pending s

theorem applyProfile_pending (s : State) : (applyProfile s).pending = s.pending := by
  unfold applyProfile
  split
  · rfl
  · split
    · dsimp only
      split <;> rfl
    · rfl

theorem loadProfile_pending (s : State) : (loadProfile s).pending = s.pending := by
  unfold loadProfile
  split <;> rfl

theorem clearRouted_pending (x : Source) (s : State) : (clearRouted x s).pending = s.pending := by
  unfold clearRouted
  split
  · rfl
  · split <;> rfl

theorem applySense_pending (x : Source) (s : State) : (applySense x s).pending = s.pending := by
  unfold applySense
  split <;> rfl

/-- An accepted SRC_APPLY clears the flags and stores the sense first, by operations that leave the queue. -/
theorem applySource_pending (s : State) : (applySource s).pending = s.pending := by
  unfold applySource
  split
  · rfl
  · split
    · rfl
    · split
      · rfl
      · refine (applySense_pending _ _).trans ?_
        split
        · rfl
        · exact clearRouted_pending _ s

theorem loadSource_pending (s : State) : (loadSource s).pending = s.pending := by
  unfold loadSource
  split <;> rfl

theorem takePending_pending (x : Source) (s : State) : (takePending x s).pending = s.pending := by
  unfold takePending
  split
  · rfl
  · split <;> rfl

theorem takeSource_pending (s : State) : (takeSource s).pending = s.pending := by
  unfold takeSource
  split
  · rfl
  · split
    · rfl
    · exact takePending_pending _ s

theorem endSource_pending (s : State) : (endSource s).pending = s.pending := by
  unfold endSource
  split
  · rfl
  · split
    · rfl
    · dsimp only
      split <;> rfl

theorem armChannel_pending (s : State) : (armChannel s).pending = s.pending := by
  unfold armChannel
  split
  · rfl
  · split
    · rfl
    · split <;> rfl

theorem stopChannel_pending (s : State) : (stopChannel s).pending = s.pending := by
  unfold stopChannel
  split
  · rfl
  · split <;> rfl

theorem ackChannel_pending (s : State) : (ackChannel s).pending = s.pending := by
  unfold ackChannel
  split <;> rfl

/-- SOFT_RESET among them: the reset values have the queue as it was. -/
theorem performCommand_pending (c : Instr) (s : State) : (performCommand c s).pending = s.pending := by
  cases c with
  | stop => exact stopEngine_pending s
  | step => exact stepEngine_pending s
  | busReset => exact busResetCommand_pending s
  | post => exact postRequest_pending s
  | pop => exact popCompletion_pending s
  | profApply => exact applyProfile_pending s
  | profLoad => exact loadProfile_pending s
  | srcApply => exact applySource_pending s
  | srcLoad => exact loadSource_pending s
  | take => exact takeSource_pending s
  | endService => exact endSource_pending s
  | arm => exact armChannel_pending s
  | chStop => exact stopChannel_pending s
  | chAck => exact ackChannel_pending s
  | run | flush | clearFault | softReset => rfl
  | unknownCmd | mdataRead | mdataWrite | configWrite | attnCfgWrite | windowWrite | resetAssert | resetDeassert | clearSweepEnd
  | satnAssertion | satnDeassertion | dispatchChoice | responseWindowExpiry | holdLimitReached | cycleEnd | busResetIntervalEnd
  | dividerTakesEffect | identifyIntervalLapse | settlePeriodsBegin | backoffExpiry | ccbLoad | channelCountStep
  | channelAddressStep | channelDataStep | channelRollback | inDataWrite | stationResponse | byteTransfer | senseSample
  | answerCheckSample => rfl

/-! ### Window accesses (R110, R191) -/

theorem windowCommand_pending {body : State → State} {s : State} (h : (body s).pending = s.pending) :
    (windowCommand body s).pending = s.pending := by
  unfold windowCommand
  split
  · rfl
  · exact h

theorem unlessInit_pending {write : State → State} {s : State} (h : (write s).pending = s.pending) :
    (unlessInit write s).pending = s.pending := by
  unfold unlessInit
  split
  · rfl
  · exact h

theorem writeCmd_pending (w : Word) (s : State) : (writeCmd w s).pending = s.pending := by
  unfold writeCmd
  split
  · exact performCommand_pending _ s
  · rfl

theorem windowTurn_pending (running : Bool) (s : State) : (windowTurn running s).pending = s.pending := by
  unfold windowTurn
  split
  · exact channelAccess_pending _ s
  · rfl

theorem readMdata_pending (running : Bool) (s : State) : (readMdata running s).pending = s.pending := by
  unfold readMdata
  split
  · rfl
  · exact windowTurn_pending running s

theorem writeMdata_pending (data : Word) (running : Bool) (s : State) : (writeMdata data running s).pending = s.pending := by
  unfold writeMdata
  split
  · rfl
  · exact windowTurn_pending running s

theorem writeLocation_pending (location : BitVec 5) (w : Word) (s : State) : (writeLocation location w s).pending = s.pending := by
  unfold writeLocation
  split
  · exact windowCommand_pending (writeCmd_pending w s)
  · exact writeMdata_pending w false s
  · exact unlessInit_pending rfl
  · exact unlessInit_pending rfl
  · refine unlessInit_pending ?_
    rw [storeLocation_frame]

/-! ### The resets and the interval (R105, R116, R203) -/

theorem assertReset_pending (held : Nat) (s : State) : (assertReset held s).pending = s.pending := by
  have htake : (takeReset held s).pending = s.pending := by
    unfold takeReset
    split
    · rfl
    · split <;> rfl
  unfold assertReset
  split
  · rfl
  · exact htake
  · exact htake

theorem deassertReset_pending (s : State) : (deassertReset s).pending = s.pending := by
  unfold deassertReset
  split <;> rfl

theorem beginSettle_pending (s : State) : (beginSettle s).pending = s.pending := by
  unfold beginSettle
  split
  · rfl
  · split <;> rfl
  · rfl
  · rfl

theorem endInterval_pending (s : State) : (endInterval s).pending = s.pending := by
  unfold endInterval
  split <;> rfl

theorem endSweep_pending (s : State) : (endSweep s).pending = s.pending := by
  unfold endSweep
  split
  · exact endInterval_pending s
  · rfl
  · rfl

/-! ### The Engine, the cycle and the channels' steps -/

theorem onCycle_pending (f : BusWork → Cycle → Cycle) (s : State) : (onCycle f s).pending = s.pending := by
  unfold onCycle
  split
  · split <;> rfl
  · rfl
  · rfl

theorem grantWord_pending (c : Channel) (s : State) : (grantWord c s).pending = s.pending := by
  unfold grantWord
  dsimp only
  split <;> rfl

theorem activate_pending (r : Request) (s : State) : (activate r s).pending = s.pending := by
  unfold activate
  dsimp only
  split <;> rfl

theorem grantRequest_pending (r : Request) (s : State) : (grantRequest r s).pending = s.pending := by
  have hactive := activate_pending r { s with engine := { s.engine with share := 0 } }
  unfold grantRequest
  dsimp only
  split
  · exact (retire_pending _ _ _ _).trans hactive
  · split <;> exact hactive

theorem grantShared_pending (s : State) : (grantShared s).pending = s.pending := by
  unfold grantShared
  split
  · exact grantRequest_pending _ s
  · exact grantWord_pending _ s
  · split
    · exact grantWord_pending _ _
    · exact grantRequest_pending _ s
  · rfl

theorem resetAfterHang_pending (o : CycleOutcome) (s : State) : (resetAfterHang o s).pending = s.pending := by
  unfold resetAfterHang
  split
  · exact startBusReset_pending s
  · rfl

/-- The owner of the work takes the outcome by operations that leave the queue. -/
theorem deliver_pending (w : BusWork) (o : CycleOutcome) (s : State) : (deliver w o s).pending = s.pending := by
  unfold deliver
  split
  · simp [resetAfterHang_pending]
  · simp
  · dsimp only
    split <;> simp

theorem beginWordCycle_pending (c : Channel) (s : State) : (beginWordCycle c s).pending = s.pending := by
  unfold beginWordCycle
  split
  · split <;> rfl
  · rfl

/-! ### The statement -/

/-- Settles O2: row by row, each by the operation that is its meaning. -/
theorem everyCommandCompletes : Obligations.EveryCommandCompletes := by
  intro i s
  have command (c : Instr) : (windowCommand (performCommand c) s).pending = s.pending :=
    windowCommand_pending (performCommand_pending c s)
  cases i with
  | run | stop | step | flush | busReset | clearFault | softReset | post | pop | profApply | profLoad | srcApply | srcLoad
  | take | endService | arm | chStop | chAck => exact ⟨_, exec_command rfl s, command _⟩
  | unknownCmd w => exact ⟨_, rfl, windowCommand_pending (writeCmd_pending w s)⟩
  | mdataRead running => exact ⟨_, rfl, readMdata_pending running s⟩
  | mdataWrite data running => exact ⟨_, rfl, writeMdata_pending data running s⟩
  | configWrite | attnCfgWrite => exact ⟨_, rfl, unlessInit_pending rfl⟩
  | windowWrite location w => exact ⟨_, rfl, writeLocation_pending location w s⟩
  | resetAssert held => exact ⟨_, rfl, assertReset_pending held s⟩
  | resetDeassert => exact ⟨_, rfl, deassertReset_pending s⟩
  | clearSweepEnd => exact ⟨_, rfl, endSweep_pending s⟩
  | busResetIntervalEnd => exact ⟨_, rfl, endInterval_pending s⟩
  | settlePeriodsBegin => exact ⟨_, rfl, beginSettle_pending s⟩
  | satnAssertion | satnDeassertion | identifyIntervalLapse =>
    refine ⟨_, rfl, ?_⟩
    split <;> rfl
  | backoffExpiry n =>
    refine ⟨_, rfl, ?_⟩
    unfold expireBackoff
    split <;> rfl
  | dividerTakesEffect =>
    refine ⟨_, rfl, ?_⟩
    unfold applyDivider
    split <;> rfl
  | dispatchChoice =>
    refine ⟨_, rfl, ?_⟩
    split
    · split
      · rfl
      · exact grantShared_pending s
    · rfl
  | responseWindowExpiry | holdLimitReached | stationResponse | byteTransfer | senseSample | answerCheckSample =>
    exact ⟨_, rfl, onCycle_pending _ s⟩
  | cycleEnd =>
    refine ⟨_, rfl, ?_⟩
    split
    · split
      · split
        · exact deliver_pending _ _ (takeDivider s)
        · rfl
      · rfl
    · rfl
    · rfl
  | ccbLoad x | channelCountStep x | channelAddressStep x | channelRollback x | inDataWrite x =>
    exact ⟨_, rfl, serveSlots_pending _ x.channel x.slots s⟩
  | channelDataStep x =>
    exact ⟨_, rfl, (beginWordCycle_pending x.channel _).trans (serveSlots_pending _ x.channel x.slots s)⟩

end Sys2Proof.Machine
end

section
/-! PROOFS. The queue of commands and the codes of CMD: a step runs the front command; Table 1 of spec/11 is read both ways
(R194). -/

namespace Sys2Proof.Machine

/-- Settles O1: the other branch of `step`, the empty queue's, is `step_of_no_command`. -/
theorem stepRunsFrontCommand : Obligations.StepRunsFrontCommand := by
  intro c rest s h
  simp only [step, h]

/-- Each code of Table 1 decodes to its command; what is no command has no code. -/
theorem decodeCommand_of_encodeCommand {c : Instr} {w : Word} (h : encodeCommand c = some w) : decodeCommand w = some c := by
  cases c
  case run | stop | step | flush | busReset | clearFault | softReset | post | pop | profApply | profLoad | srcApply | srcLoad |
      take | endService | arm | chStop | chAck =>
    obtain rfl := Option.some.inj h
    rfl
  all_goals cases h

/-- Settles O5: a code decodes to its command, and a word that decodes to a command is its code. -/
theorem commandCodesRoundTrip : Obligations.CommandCodesRoundTrip :=
  fun _ _ => ⟨decodeCommand_of_encodeCommand, encodeCommand_of_decodeCommand⟩

end Sys2Proof.Machine
end

section
/-! PROOFS. The window after reset (R199): the map location by location, and the words computed from more than a stored field. -/

namespace Sys2Proof.Machine

/-- The 32 locations of Table 4 of spec/11 in their order, outside INIT. -/
theorem windowMap_running {s : State} (hi : s.inInit = false) :
    (List.range 32).map (fun i => windowRead s (BitVec.ofNat 5 i)) =
      [0x2140#16, statusWord s, 0#12 ++ s.port.result.code, s.port.arg0, s.port.arg1, s.port.arg2,
       s.port.sub.ctrlWord, s.port.sub.addrWord, s.port.sub.data, cqHeadWord s, cqStatusWord s, cqDataWord s,
       0#4 ++ s.xmem.mptr, Memory.read s.xmem.mem s.xmem.mptr.toNat,
       0#11 ++ s.port.profSel, s.port.prof.wordA, s.port.prof.wordB, s.port.prof.wordC,
       0#11 ++ s.port.srcSel, s.port.src.word, srcStateWord s, alertWord s 0, alertWord s 1, attnWord s,
       BitVec.ofNat 16 s.port.chSel.val, chStatusWord s, 0#4 ++ (s.channels[s.port.chSel]).ccb,
       faultWord s, s.cfg.word, 0#8 ++ s.attn.interval, 0x0000#16, 0x0000#16] :=
  calc (List.range 32).map (fun i => windowRead s (BitVec.ofNat 5 i))
    _ = (List.range 32).map (fun i => locationWord s (BitVec.ofNat 5 i)) :=
      List.map_congr_left fun _ _ => windowRead_running hi _
    _ = _ := rfl

/-! ### ALERT0, ALERT1 and ATTN with nothing to show (R166, R180) -/

theorem serviceMask_of_none_inService {s : State} {l : Line} (h : ∀ x : Source, inServiceOn s l x = false) :
    serviceMask s l = 0#8 := by
  refine BitVec.eq_of_getLsbD_eq fun p hp => ?_
  rw [BitVec.getLsbD_zero, Bool.eq_false_iff, Ne, serviceMask_getLsbD s l hp]
  rintro ⟨x, hx, -⟩
  exact nomatch (h x).symm.trans hx

/-- A line that presents no source and has none in service reads 0000h. -/
theorem alertWord_quiet {s : State} {l : Line} (hservice : ∀ x : Source, inServiceOn s l x = false)
    (hpresented : presented s l = none) : alertWord s l = 0x0000#16 := by
  rw [alertWord_eq, hpresented, serviceMask_of_none_inService hservice]
  rfl

theorem attnWord_of_no_bits {s : State} (h : attnBits s = []) : attnWord s = 0x0000#16 := by
  rw [attnWord_eq, h]
  rfl

/-! ### The blocks after reset -/

/-- After reset every source is MASKED, so none goes to a line, and none is in service (R183). -/
theorem alertWord_reset (l : Line) : alertWord State.reset l = 0x0000#16 := by
  have hservice (x : Source) : inServiceOn State.reset l x = false := by
    simp [inServiceOn, State.reset, Alerts.reset]
  have hmasked (x : Source) : State.reset.lineOf x = none := by
    simp [State.lineOf, State.reset, Alerts.reset, Routing.toLine]
  refine alertWord_quiet hservice ((presented_eq_none_iff _ l).mpr fun x hx => ?_)
  obtain ⟨hline, -⟩ := hx
  exact nomatch (hmasked x).symm.trans hline

/-- No latest answer bit is set, and SATN# is held deasserted (R148, assumption 12). -/
theorem attnWord_reset : attnWord State.reset = 0x0000#16 :=
  attnWord_of_no_bits (by simp [attnBits, State.reset, Attention.reset, StationAttention.reset])

theorem statusWord_reset : statusWord State.reset = 0x4000#16 := rfl

/-- CH_SEL names channel 0, which is idle with its flags clear (R124). -/
theorem chStatusWord_reset : chStatusWord State.reset = 0x0000#16 := rfl

/-- Settles O10: the stored fields hold their reset values, and each computed word is its block's. -/
theorem resetWindowMap : Obligations.ResetWindowMap := by
  obtain ⟨hhead, hstatus, hdata⟩ := cqWords_empty (s := State.reset) rfl
  have hsource : srcStateWord State.reset = 0x0000#16 := srcStateWord_noSource (.inl rfl)
  have hfault : faultWord State.reset = 0x0000#16 := rfl
  refine (windowMap_running (s := State.reset) rfl).trans ?_
  rw [statusWord_reset, hhead, hstatus, hdata, hsource, alertWord_reset, alertWord_reset, attnWord_reset,
    chStatusWord_reset, hfault]
  rfl

end Sys2Proof.Machine
end
